-- ==== Sys2Proof/Word.lean ====
section
/-! DEFINITION. The block's data words: bytes, register indices, FSM codes, 8-byte frames. -/

namespace Sys2Proof

/-- R5 `BYTE`: the width of every datum on the wire and in every host register. -/
abbrev Byte := BitVec 8

/-- R22, R60: a host register is reached by a 10-bit index. -/
abbrev RegIndex := BitVec 10

/-- R34: the controller phase register has 3 bits. -/
abbrev FsmCode := BitVec 3

/-- R5 `FRAME_LEN`, R93, R94: a frame is eight bytes, named by their offsets. -/
structure Frame where
  o0 : Byte
  o1 : Byte
  o2 : Byte
  o3 : Byte
  o4 : Byte
  o5 : Byte
  o6 : Byte
  o7 : Byte
deriving DecidableEq, Repr

/-- R122: what `DecodeAck` returns, `(valid, type, q1, q2, q3)`. -/
structure DecodedAck where
  valid : Bool
  type : Byte
  q1 : Byte
  q2 : Byte
  status : Byte
deriving DecidableEq, Repr

/-- R101, R202: the status byte as the closed enumeration; a byte outside the list stays `unknown`. -/
inductive Status where
  | success
  | fail
  | dbFull
  | noUser
  | userExists
  | imageTimeout
  | hwError
  | imageError
  | spoof
  | homologyFail
  | serialTimeout
  | idle
  | aborted
  | unknown (s : Byte)
deriving DecidableEq, Repr

end Sys2Proof
end

