-- ==== Sys2Proof/Config.lean ====
section
/-! DEFINITION. What the spec fixes for every block (marker, frame length, line format) and the parameters it leaves open (R5). -/

namespace Sys2Proof

/-- R5 `MARKER`: the synchronisation marker byte (`90_conflicts.md` C6). -/
def marker : Byte := 0xF5

/-- R5 `FRAME_LEN`: bytes per command or acknowledgment frame. -/
def frameLen : Nat := 8

/-- R5, R252: the collaborator UART's line format. No rule of the block reads it. -/
def lineBaud : Nat := 115200

/-- R5, R252: data bits of the collaborator UART. -/
def lineDataBits : Nat := 8

/-- R5, R252: parity bits of the collaborator UART. -/
def lineParityBits : Nat := 0

/-- R5, R252: stop bits of the collaborator UART. -/
def lineStopBits : Nat := 1

/-- R5: the OPEN parameters of a block. A state carries its block's values and no step changes them (log entry 2). -/
structure Config where
  /-- `BUDGET_TICKS`, the timeout budget in ticks. -/
  budgetTicks : Nat
  /-- `RX_DEPTH`, the capacity of the receive FIFO in bytes. -/
  rxDepth : Nat
  /-- `PKG_MAX_CHARS`, the capacity of the package buffer in characters. -/
  pkgMaxChars : Nat
  /-- `TICK_UNITS`, the length of a tick in the source's time units; no rule reads it. -/
  tickUnits : Nat
deriving DecidableEq, Repr

/-- R5: the bounds on the parameters (`90_conflicts.md` C9 for the 255). -/
structure Config.Valid (c : Config) : Prop where
  budget : 1 ≤ c.budgetTicks
  depth : 8 ≤ c.rxDepth
  pkgLow : 1 ≤ c.pkgMaxChars
  pkgHigh : c.pkgMaxChars ≤ 255

/-- R5 `W_CNT`: the width of each budget counter, the least w with `BUDGET_TICKS` < 2^w for a budget of at least 1. -/
def Config.wCnt (c : Config) : Nat := Nat.log2 c.budgetTicks + 1

/-- The parameters State.reset carries: 8000 is R5's reference budget; DESIGN CHOICE (log entry 2) for the other three. -/
def Config.reference : Config :=
  { budgetTicks := 8000, rxDepth := 512, pkgMaxChars := 255, tickUnits := 1 }

end Sys2Proof
end

