-- ==== Sys2Proof/Machine/Operands.lean ====
section
/-! DEFINITION. The values the rules read out of bytes: hex characters, the 16-bit view, the status enumeration. -/

namespace Sys2Proof

/-- R66 `U16(hi, lo)`: q1 is the high byte. -/
def u16 (hi lo : Byte) : BitVec 16 := (hi.setWidth 16 <<< 8) ||| lo.setWidth 16

/-- R33: the characters '0'..'9' and 'A'..'F' by their ASCII codes (spec-marked general knowledge, `93` G2). -/
def isHexChar (c : Byte) : Bool :=
  (0x30 ≤ c.toNat && c.toNat ≤ 0x39) || (0x41 ≤ c.toNat && c.toNat ≤ 0x46)

/-- R188 `HexVal(c)`; a character that is no hex digit has no value. -/
def hexVal (c : Byte) : Option Byte :=
  if 0x30 ≤ c.toNat ∧ c.toNat ≤ 0x39 then some (c - 0x30)
  else if 0x41 ≤ c.toNat ∧ c.toNat ≤ 0x46 then some (c - 0x41 + 10)
  else none

/-- R33: the raw byte of two characters, the high nibble first. -/
def hexPair (hi lo : Byte) : Option Byte :=
  match hexVal hi, hexVal lo with
  | some h, some l => some ((h <<< 4) ||| l)
  | _, _ => none

/-- R67 `HEX[n]`: the n-th character of "0123456789ABCDEF", for n < 16. -/
def hexDigit (n : Nat) : Byte :=
  if n < 10 then BitVec.ofNat 8 (0x30 + n) else BitVec.ofNat 8 (0x41 + (n - 10))

/-- R67: raw bytes as they travel in a package, two characters each, high nibble first. -/
def hexEncode : List Byte → List Byte
  | [] => []
  | b :: bs => hexDigit (b.toNat / 16) :: hexDigit (b.toNat % 16) :: hexEncode bs

/-- R101: SUCCESS. -/
def statusSuccess : Byte := 0x00

/-- R101: FAIL. -/
def statusFail : Byte := 0x01

/-- R101: SERIAL_TIMEOUT. -/
def statusSerialTimeout : Byte := 0x13

/-- R202 `StatusOf(s)`, over the code set of R101. -/
def statusOf (s : Byte) : Status :=
  if s = 0x00 then .success
  else if s = 0x01 then .fail
  else if s = 0x04 then .dbFull
  else if s = 0x05 then .noUser
  else if s = 0x07 then .userExists
  else if s = 0x08 then .imageTimeout
  else if s = 0x0A then .hwError
  else if s = 0x10 then .imageError
  else if s = 0x11 then .spoof
  else if s = 0x12 then .homologyFail
  else if s = 0x13 then .serialTimeout
  else if s = 0x14 then .idle
  else if s = 0x18 then .aborted
  else .unknown s

end Sys2Proof
end

