-- ==== Sys2Proof/Machine/Codec.lean ====
section
/-! DEFINITION. The frame codec's pure functions (40_codec.md section 1) and the byte access to a frame. -/

namespace Sys2Proof

/-- The frame of eight zero bytes (R40). -/
def Frame.zero : Frame := ⟨0, 0, 0, 0, 0, 0, 0, 0⟩

/-- R65: a frame's bytes in offset order. -/
def Frame.toList (f : Frame) : List Byte := [f.o0, f.o1, f.o2, f.o3, f.o4, f.o5, f.o6, f.o7]

/-- R65: the first byte of the run stands at offset 0. Only runs of eight bytes are given to it. -/
def Frame.ofBytes (bs : List Byte) : Frame :=
  ⟨bs.getD 0 0, bs.getD 1 0, bs.getD 2 0, bs.getD 3 0, bs.getD 4 0, bs.getD 5 0, bs.getD 6 0, bs.getD 7 0⟩

/-- The byte at offset k (R6 `x[i]`). -/
def Frame.get (f : Frame) (k : Nat) : Byte :=
  match k with
  | 0 => f.o0
  | 1 => f.o1
  | 2 => f.o2
  | 3 => f.o3
  | 4 => f.o4
  | 5 => f.o5
  | 6 => f.o6
  | 7 => f.o7
  | _ => 0

/-- The frame with the byte at offset k replaced. -/
def Frame.set (f : Frame) (k : Nat) (v : Byte) : Frame :=
  match k with
  | 0 => { f with o0 := v }
  | 1 => { f with o1 := v }
  | 2 => { f with o2 := v }
  | 3 => { f with o3 := v }
  | 4 => { f with o4 := v }
  | 5 => { f with o5 := v }
  | 6 => { f with o6 := v }
  | 7 => { f with o7 := v }
  | _ => f

/-- R120 `Checksum(f)`, the one definition that both paths use (R127). -/
def checksum (f : Frame) : Byte := f.o1 ^^^ f.o2 ^^^ f.o3 ^^^ f.o4 ^^^ f.o5

/-- R121 `EncodeCommand`. -/
def encodeCommand (o p1 p2 p3 : Byte) : Frame :=
  let f : Frame := ⟨marker, o, p1, p2, p3, 0x00, 0x00, marker⟩
  { f with o6 := checksum f }

/-- R122 `DecodeAck`: only the checksum decides validity; offsets 0, 5 and 7 are not tested (D7). -/
def decodeAck (f : Frame) : DecodedAck :=
  { valid := checksum f == f.o6, type := f.o1, q1 := f.o2, q2 := f.o3, status := f.o4 }

/-- R94: an acknowledgment frame with its marker at offset 0. -/
def ackBytes (type q1 q2 status reserved cksum trailer : Byte) : Frame :=
  ⟨marker, type, q1, q2, status, reserved, cksum, trailer⟩

end Sys2Proof
end

