-- ==== Sys2Proof/Syntax.lean ====
section
/-! DEFINITION. The instructions: one constructor per row of spec/opcode_table.json. -/

namespace Sys2Proof

/-- One constructor per row of the opcode table: six host operations (R91) and four wire formats (R93, R94, R95, R99). -/
inductive Instr where
  /-- ENCODE, CTRL = 0x01 (R123). -/
  | encodeOp
  /-- CHECKSUM, CTRL = 0x02 (R124). -/
  | checksumOp
  /-- DECODE, CTRL = 0x03 (R125). -/
  | decodeOp
  /-- EXCHANGE, CTRL = 0x04 (R140). -/
  | exchangeOp
  /-- READ_PKG, CTRL = 0x05 (R180). -/
  | readPkgOp
  /-- CHECK_TYPE, CTRL = 0x06 (R201). -/
  | checkTypeOp
  /-- CMD_FRAME (R93): offsets 1 to 4; the markers, the zero and the checksum are determined. -/
  | cmdFrame (opcode p1 p2 p3 : Byte)
  /-- ACK_FRAME (R94): offsets 1 to 7, none of them constrained. -/
  | ackFrame (type q1 q2 status reserved cksum trailer : Byte)
  /-- WIRE_CMD_GET_USER_COUNT (R95): the command frame of opcode 0x09 with zero parameters. -/
  | wireCmdGetUserCount
  /-- DATA_PACKAGE (R99): the characters between the two markers. -/
  | dataPackage (chars : List Byte)
deriving DecidableEq, Repr

/-- Where a word is read: R90's CTRL writes, the transmit stream, or the receive stream. R100: on the receive
stream the two formats are told apart only by which operation is reading. -/
inductive Port where
  | ctrl
  | tx
  | rxFrame
  | rxPackage
deriving DecidableEq, Repr

/-- The port at which each instruction's bytes stand. -/
def Instr.port : Instr → Port
  | .encodeOp => .ctrl
  | .checksumOp => .ctrl
  | .decodeOp => .ctrl
  | .exchangeOp => .ctrl
  | .readPkgOp => .ctrl
  | .checkTypeOp => .ctrl
  | .cmdFrame _ _ _ _ => .tx
  | .ackFrame _ _ _ _ _ _ _ => .rxFrame
  | .wireCmdGetUserCount => .tx
  | .dataPackage _ => .rxPackage

end Sys2Proof
end

