-- ==== Sys2Proof/WellFormed.lean ====
section
/-! DEFINITION. Which terms of Instr are words of the spec's formats. -/

namespace Sys2Proof

/-- R99: every character of a package differs from the marker. -/
def noMarker (chars : List Byte) : Bool := chars.all (fun c => c != marker)

/-- R93, R95, R99. A command frame whose four bytes are those of the named row WIRE_CMD_GET_USER_COUNT is written as that row
(log entry 4); a package has at least one character and no marker among them (the table's `(cccccccc)+`). -/
def Instr.wellFormed : Instr → Bool
  | .encodeOp => true
  | .checksumOp => true
  | .decodeOp => true
  | .exchangeOp => true
  | .readPkgOp => true
  | .checkTypeOp => true
  | .cmdFrame o p1 p2 p3 => !(o == 0x09 && p1 == 0 && p2 == 0 && p3 == 0)
  | .ackFrame _ _ _ _ _ _ _ => true
  | .wireCmdGetUserCount => true
  | .dataPackage chars => !chars.isEmpty && noMarker chars

end Sys2Proof
end

