-- ==== Sys2Proof/Decode.lean ====
section
/-! DEFINITION. From bytes to instructions, total and rejecting by name, and the encoder beside it (30_encoding.md). -/

namespace Sys2Proof

/-- Why a run of bytes names no instruction. -/
inductive DecodeError where
  /-- Too few bytes for the format. -/
  | truncated
  /-- R90, R92: CTRL[7:4] is not zero. -/
  | reservedBits (v : Byte)
  /-- R92: OP is 0x0 or 0x7 to 0xF. -/
  | illegalOp (v : Byte)
  /-- R93, R94, R99: offset 0 is not the marker. -/
  | noLeadingMarker
  /-- R93, R97: offset 5 of a command frame is not zero. -/
  | reservedByte
  /-- R93: offset 7 of a command frame is not the marker. -/
  | noTrailingMarker
  /-- R93: offset 6 of a command frame is not the checksum. -/
  | wrongChecksum
  /-- R99: nothing stands between the two markers. -/
  | emptyPackage
  /-- R99, R100: no second marker. -/
  | unterminatedPackage
deriving DecidableEq, Repr

/-- R90: the field OP, CTRL[3:0]. -/
def ctrlOp (v : Byte) : BitVec 4 := v.extractLsb' 0 4

/-- R90: the field RSV, CTRL[7:4]. -/
def ctrlRsv (v : Byte) : BitVec 4 := v.extractLsb' 4 4

/-- R91, R92: the operation a CTRL value names. -/
def decodeCtrl (v : Byte) : Except DecodeError Instr :=
  if ctrlRsv v ≠ 0 then .error (.reservedBits v)
  else if ctrlOp v = 0x1 then .ok .encodeOp
  else if ctrlOp v = 0x2 then .ok .checksumOp
  else if ctrlOp v = 0x3 then .ok .decodeOp
  else if ctrlOp v = 0x4 then .ok .exchangeOp
  else if ctrlOp v = 0x5 then .ok .readPkgOp
  else if ctrlOp v = 0x6 then .ok .checkTypeOp
  else .error (.illegalOp v)

/-- R93, R95: an outbound frame. The named row is the frame of opcode 0x09 with zero parameters (log entry 4). -/
def decodeCmdFrame (f : Frame) : Except DecodeError Instr :=
  if f.o0 ≠ marker then .error .noLeadingMarker
  else if f.o5 ≠ 0 then .error .reservedByte
  else if f.o7 ≠ marker then .error .noTrailingMarker
  else if f.o6 ≠ checksum f then .error .wrongChecksum
  else if f.o1 = 0x09 ∧ f.o2 = 0 ∧ f.o3 = 0 ∧ f.o4 = 0 then .ok .wireCmdGetUserCount
  else .ok (.cmdFrame f.o1 f.o2 f.o3 f.o4)

/-- R94: an inbound frame. Nothing but the marker at offset 0 is fixed. -/
def decodeAckFrame (f : Frame) : Except DecodeError Instr :=
  if f.o0 ≠ marker then .error .noLeadingMarker
  else .ok (.ackFrame f.o1 f.o2 f.o3 f.o4 f.o5 f.o6 f.o7)

/-- R100: a package ends at the first marker after the leading one: the bytes before it and those after it. -/
def splitAtMarker : List Byte → Option (List Byte × List Byte)
  | [] => none
  | b :: bs =>
    if b = marker then some ([], bs)
    else match splitAtMarker bs with
      | none => none
      | some (chars, rest) => some (b :: chars, rest)

/-- R99: a data package at the head of the receive stream, with what follows its trailing marker. -/
def decodePackage : List Byte → Except DecodeError (Instr × List Byte)
  | [] => .error .truncated
  | b :: bs =>
    if b ≠ marker then .error .noLeadingMarker
    else match splitAtMarker bs with
      | none => .error .unterminatedPackage
      | some ([], _) => .error .emptyPackage
      | some (c :: chars, rest) => .ok (.dataPackage (c :: chars), rest)

/-- The eight oldest bytes of a run as a frame (R65), with what follows them. -/
def takeFrame : List Byte → Except DecodeError (Frame × List Byte)
  | b0 :: b1 :: b2 :: b3 :: b4 :: b5 :: b6 :: b7 :: rest => .ok (⟨b0, b1, b2, b3, b4, b5, b6, b7⟩, rest)
  | _ => .error .truncated

/-- The instruction at the head of a run of bytes read at a port, with the rest of the run. -/
def decode (p : Port) (bs : List Byte) : Except DecodeError (Instr × List Byte) :=
  match p with
  | .ctrl =>
    match bs with
    | [] => .error .truncated
    | v :: rest =>
      match decodeCtrl v with
      | .ok i => .ok (i, rest)
      | .error e => .error e
  | .tx =>
    match takeFrame bs with
    | .error e => .error e
    | .ok (f, rest) =>
      match decodeCmdFrame f with
      | .ok i => .ok (i, rest)
      | .error e => .error e
  | .rxFrame =>
    match takeFrame bs with
    | .error e => .error e
    | .ok (f, rest) =>
      match decodeAckFrame f with
      | .ok i => .ok (i, rest)
      | .error e => .error e
  | .rxPackage => decodePackage bs

/-- The instruction that is exactly this run of bytes at this port. -/
def decodeWhole (p : Port) (bs : List Byte) : Option Instr :=
  match decode p bs with
  | .ok (i, []) => some i
  | _ => none

/-- The bytes of an instruction, from the tables of R91, R93, R94, R95 and R99. -/
def encode : Instr → List Byte
  | .encodeOp => [0x01]
  | .checksumOp => [0x02]
  | .decodeOp => [0x03]
  | .exchangeOp => [0x04]
  | .readPkgOp => [0x05]
  | .checkTypeOp => [0x06]
  | .cmdFrame o p1 p2 p3 => (encodeCommand o p1 p2 p3).toList
  | .ackFrame t q1 q2 st r k z => (ackBytes t q1 q2 st r k z).toList
  | .wireCmdGetUserCount => [0xF5, 0x09, 0x00, 0x00, 0x00, 0x00, 0x09, 0xF5]
  | .dataPackage chars => marker :: (chars ++ [marker])

/-- The n bytes of a word as the opcode table numbers them: the most significant byte is offset 0 (log entry 4). -/
def wordBytes (n w : Nat) : List Byte :=
  match n with
  | 0 => []
  | k + 1 => BitVec.ofNat 8 (w / 256 ^ k) :: wordBytes k w

/-- The instruction a word of the opcode table is: an 8-bit word is a CTRL value, a 64-bit word is a frame (outbound if it has
that form, else inbound), any other whole number of bytes is a data package (log entry 4). -/
def decodeTableWord (nbits w : Nat) : Option Instr :=
  if nbits % 8 ≠ 0 then none
  else if nbits = 8 then decodeWhole .ctrl (wordBytes 1 w)
  else if nbits = 64 then
    match decodeWhole .tx (wordBytes 8 w) with
    | some i => some i
    | none => decodeWhole .rxFrame (wordBytes 8 w)
  else decodeWhole .rxPackage (wordBytes (nbits / 8) w)

end Sys2Proof
end

