-- ==== Sys2Proof/Machine/State.lean ====
section
/-! DEFINITION. The machine's state as plain data, the reasons it stops, and the state after reset. -/

namespace Sys2Proof.Machine

/-- STAT (R23). Bit 7 is reserved and reads 0, so it is no field. -/
structure Stat where
  busy : Bool
  done : Bool
  respValid : Bool
  isLocal : Bool
  cksumOk : Bool
  typeMatch : Bool
  pkgHexOk : Bool
deriving DecidableEq, Repr

/-- ERR (R24). Bits 7:3 are reserved and read 0, so they are no fields. -/
structure Err where
  illegalOp : Bool
  overlap : Bool
  rxOverrun : Bool
deriving DecidableEq, Repr

/-- The model's record of the events that "a model treats as a fault" while the hardware goes on (R24, R33, R221, R222,
R253). No step clears one (log entries 5, 6, 7). -/
structure FaultBits where
  /-- A CTRL write with an illegal value (R222, U1). -/
  illegalOp : Bool
  /-- A CTRL write while BUSY (R222, U2). -/
  overlap : Bool
  /-- A byte dropped because RXQ was full (R71, U3). -/
  rxOverrun : Bool
  /-- A read of PKG_RAW where it has no value (R33, U4). -/
  pkgRawRead : Bool
  /-- A read of a result register that has no meaning at that moment (R30, R38, R253, U5, I12). -/
  staleRead : Bool
deriving DecidableEq, Repr

/-- One step of an agent, or a run of steps of the LINE with nothing between them. -/
inductive Input where
  /-- HOST: `HostWrite(i, v)` (R62, R63, R64). -/
  | hostWrite (i : RegIndex) (v : Byte)
  /-- HOST: `HostRead(i)` (R61, R62). -/
  | hostRead (i : RegIndex)
  /-- LINE: `LinePush(b)` (R71), the port strobe `rx_valid` (R230). -/
  | linePush (b : Byte)
  /-- LINE: the port strobe `tx_ready` (R230), a `LineDrain` when TXQ is not empty (R73). -/
  | txReady
  /-- CTL: one tick (R10). -/
  | tick
  /-- The reset input (R250). -/
  | rst
  /-- LINE takes one outbound frame: eight `tx_ready` strobes with nothing between (R103 `DRAIN`). -/
  | txFrame
  /-- LINE delivers an inbound frame: a run of `LinePush` steps (R103 `LINE <-`). -/
  | rxFrame (bytes : List Byte)
  /-- LINE delivers a data package: a run of `LinePush` steps (R103 `LINE <-`). -/
  | rxPackage (bytes : List Byte)
  /-- HOST takes no step until STAT.DONE = 1 (R102 `WAITDONE`). -/
  | waitDone
deriving DecidableEq, Repr

/-- The state tuple of R20, with four fields of the model's own at its end. -/
structure State where
  /-- STAT (R23). -/
  stat : Stat
  /-- ERR (R24). -/
  err : Err
  /-- FSM (R34). -/
  fsm : FsmCode
  /-- CMD_OPCODE (R25). -/
  cmdOpcode : Byte
  /-- CMD_P1 (R25). -/
  cmdP1 : Byte
  /-- CMD_P2 (R25). -/
  cmdP2 : Byte
  /-- CMD_P3 (R25). -/
  cmdP3 : Byte
  /-- SENT_OPCODE (R26). -/
  sentOpcode : Byte
  /-- RES_TYPE (R30). -/
  resType : Byte
  /-- RES_Q1 (R30). -/
  resQ1 : Byte
  /-- RES_Q2 (R30). -/
  resQ2 : Byte
  /-- RES_STATUS (R31). -/
  resStatus : Byte
  /-- CMD_STATUS (R31). -/
  cmdStatus : Byte
  /-- CKSUM (R32). -/
  cksum : Byte
  /-- PKG_LEN (R33): the characters accumulated. The host sees `hostPkgLen` of it (R38; log entry 16). -/
  pkgLen : Byte
  /-- LAST_OP (R22). -/
  lastOp : Byte
  /-- TXF[0..7] (R27). -/
  txf : Frame
  /-- RXF[0..7] (R28). -/
  rxf : Frame
  /-- FRAME_IN[0..7] (R29). -/
  frameIn : Frame
  /-- PKG_BUF (R33): the stored characters; an index past the list holds 0x00 (log entry 12). The host sees `hostPkgChar` of it
  (R38; log entry 16). -/
  pkgBuf : List Byte
  /-- OUTER_CNT (R35). -/
  outerCnt : Nat
  /-- RESYNC_CNT (R35). -/
  resyncCnt : Nat
  /-- RXQ (R36), oldest byte first. -/
  rxq : List Byte
  /-- TXQ (R37), oldest byte first. -/
  txq : List Byte
  /-- The model's own: the block's parameters (R5; log entry 2). -/
  cfg : Config
  /-- The model's own: the agents' steps still to come, oldest first (R74; log entry 1). -/
  inputs : List Input
  /-- The model's own: what the last `HostRead` put on the port `host_rdata` (R230; log entry 9). -/
  hostRdata : Byte
  /-- The model's own: the recorded faults (R221; log entry 5). -/
  faultBits : FaultBits
deriving DecidableEq, Repr

/-- Why a step stops. -/
inductive Fault where
  /-- Raised by a CTL tick that finds FSM in 6 or 7 (R34). Safe: no step leads to such a state. -/
  | fsmCode
  /-- Raised by `RxPeek`, `RxPop`, `RxPopN` without enough bytes in RXQ (R72). Safe: every rule tests `RxAvail` first. -/
  | rxUnderflow
  /-- Raised by CMD_FRAME and WIRE_CMD_GET_USER_COUNT when the eight oldest bytes of TXQ are not that frame: the line can only
  take what TXQ holds (R73 `LineDrain` requires and takes TXQ[0]). Safe: a step runs them on TXQ's own bytes. -/
  | frameNotQueued
deriving DecidableEq, Repr

/-- Why an instruction has no meaning. -/
inductive Refusal where
  /-- Raised by an arm of `exec` whose instruction has no meaning yet; no arm does. Safe. -/
  | notModelled (mnemonic : String)
deriving DecidableEq, Repr

/-- The outcome of a step of this machine. -/
abbrev Result := Host.Outcome State Fault Refusal

/-- No fault recorded. -/
def FaultBits.none : FaultBits :=
  { illegalOp := false, overlap := false, rxOverrun := false, pkgRawRead := false, staleRead := false }

/-- R40: every element of the block's state at its reset value; the model's own fields as log entries 1, 2, 5, 9 say. -/
def State.reset : State :=
  { stat := { busy := false, done := false, respValid := false, isLocal := false, cksumOk := false,
              typeMatch := false, pkgHexOk := false }
    err := { illegalOp := false, overlap := false, rxOverrun := false }
    fsm := 0
    cmdOpcode := 0, cmdP1 := 0, cmdP2 := 0, cmdP3 := 0
    sentOpcode := 0, resType := 0, resQ1 := 0, resQ2 := 0
    resStatus := 0, cmdStatus := 0
    cksum := 0, pkgLen := 0, lastOp := 0
    txf := Frame.zero, rxf := Frame.zero, frameIn := Frame.zero
    pkgBuf := []
    outerCnt := 0, resyncCnt := 0
    rxq := [], txq := []
    cfg := Config.reference
    inputs := []
    hostRdata := 0
    faultBits := FaultBits.none }

end Sys2Proof.Machine
end

