-- ==== Sys2Proof/Machine/Flags.lean ====
section
/-! DEFINITION. The flag computations: the bytes STAT and ERR read as, TYPE_MATCH with CMD_STATUS, PKG_HEX_OK, the package views. -/

namespace Sys2Proof.Machine

open Sys2Proof

/-- A byte whose bit n is b and whose other bits are 0. -/
def flagBit (b : Bool) (n : Nat) : Byte := if b then 1#8 <<< n else 0

/-- R23: STAT as the host reads it. -/
def Stat.toByte (st : Stat) : Byte :=
  flagBit st.busy 0 ||| flagBit st.done 1 ||| flagBit st.respValid 2 ||| flagBit st.isLocal 3 |||
    flagBit st.cksumOk 4 ||| flagBit st.typeMatch 5 ||| flagBit st.pkgHexOk 6

/-- R24: ERR as the host reads it. -/
def Err.toByte (e : Err) : Byte :=
  flagBit e.illegalOp 0 ||| flagBit e.overlap 1 ||| flagBit e.rxOverrun 2

/-- R64: a bit of v that is 1 clears its ERR bit, a bit that is 0 leaves it. -/
def Err.clear (e : Err) (v : Byte) : Err :=
  { illegalOp := e.illegalOp && !v.getLsbD 0
    overlap := e.overlap && !v.getLsbD 1
    rxOverrun := e.rxOverrun && !v.getLsbD 2 }

/-- R200 `TypeCheck(e, valid, t, s)`: TYPE_MATCH and CMD_STATUS. -/
def typeCheck (e : Byte) (valid : Bool) (t s : Byte) : Bool × Byte :=
  if valid = false then (false, s)
  else if t = e then (true, s)
  else (false, statusFail)

/-- R33: PKG_BUF[k] as stored. -/
def State.pkgChar (s : State) (k : Nat) : Byte := s.pkgBuf.getD k 0x00

/-- R33: the characters PKG_BUF[0..PKG_LEN-1]. -/
def State.pkgChars (s : State) : List Byte := (List.range s.pkgLen.toNat).map s.pkgChar

/-- R33, R184: the equation PKG_HEX_OK obeys, over PKG_LEN and PKG_BUF. -/
def State.pkgIsHex (s : State) : Bool :=
  0 < s.pkgLen.toNat && s.pkgLen.toNat % 2 == 0 && s.pkgChars.all isHexChar

/-- R33: PKG_RAW[j], where it has a value. -/
def State.pkgRaw (s : State) (j : Nat) : Option Byte :=
  if s.stat.pkgHexOk = true ∧ 2 * j + 1 < s.pkgLen.toNat then
    hexPair (s.pkgChar (2 * j)) (s.pkgChar (2 * j + 1))
  else none

/-- R226: the level output `done`. -/
def State.donePin (s : State) : Bool := s.stat.done

/-- R230: the output `tx_valid`. -/
def State.txValid (s : State) : Bool := !s.txq.isEmpty

/-- R230: the output `tx_byte`, meaningful while `tx_valid`. -/
def State.txByte (s : State) : Option Byte := s.txq.head?

end Sys2Proof.Machine
end

