-- ==== Sys2Proof/Machine/Ops.lean ====
section
/-! DEFINITION. The shared operations over queues and registers: the channel primitives (R72, R73), the LINE's steps, the host's
register access, the acceptance of a request (R222) and the completion of an operation (R223). -/

namespace Sys2Proof.Machine

open Sys2Proof

/-! ### FSM codes (R34) -/

/-- No multi-tick operation in progress. -/
def fsmIdle : FsmCode := 0
/-- EXCHANGE, waiting for flush-until-sent. -/
def fsmTxWait : FsmCode := 1
/-- EXCHANGE, waiting for eight bytes. -/
def fsmWait : FsmCode := 2
/-- EXCHANGE, discarding to a marker, then reading the frame. -/
def fsmResync : FsmCode := 3
/-- READ_PKG, discarding up to and including the first marker. -/
def fsmPkgSync : FsmCode := 4
/-- READ_PKG, accumulating characters. -/
def fsmPkgRead : FsmCode := 5

/-! ### Receive primitives (R72) -/

/-- `RxAvail()`. -/
def rxAvail (s : State) : Nat := s.rxq.length

/-- `RxPeek()`; without a byte it is the model's fault. -/
def rxPeek (s : State) : Except Fault Byte :=
  match s.rxq with
  | [] => .error .rxUnderflow
  | b :: _ => .ok b

/-- `RxPop()`. -/
def rxPop (s : State) : Except Fault (Byte × State) :=
  match s.rxq with
  | [] => .error .rxUnderflow
  | b :: rest => .ok (b, { s with rxq := rest })

/-- `RxPopN(n)`, the bytes in arrival order (R65, R76). -/
def rxPopN (n : Nat) (s : State) : Except Fault (List Byte × State) :=
  if n ≤ s.rxq.length then .ok (s.rxq.take n, { s with rxq := s.rxq.drop n })
  else .error .rxUnderflow

/-- `RxFlush()`. -/
def rxFlush (s : State) : State := { s with rxq := [] }

/-- Goes on with the value of a primitive, or stops with its fault. -/
def orFault {α : Type} (e : Except Fault α) (k : α → Result) : Result :=
  match e with
  | .ok a => k a
  | .error r => .fault r

/-! ### Transmit primitives and the LINE's steps (R71, R73) -/

/-- `TxWrite(s)`. -/
def txWrite (bs : List Byte) (s : State) : State := { s with txq := s.txq ++ bs }

/-- `TxDone()`. -/
def txDone (s : State) : Bool := s.txq.isEmpty

/-- `LinePush(b)`: the newest byte is dropped when RXQ is full, and the overrun is recorded (log entry 5). -/
def linePush (b : Byte) (s : State) : State :=
  if s.rxq.length < s.cfg.rxDepth then { s with rxq := s.rxq ++ [b] }
  else { s with err.rxOverrun := true, faultBits.rxOverrun := true }

/-- A run of `LinePush` steps in order (R103). -/
def linePushAll : List Byte → State → State
  | [], s => s
  | b :: bs, s => linePushAll bs (linePush b s)

/-- The strobe `tx_ready` (R230): a `LineDrain` when TXQ is not empty, and no transfer when it is (log entry 11). -/
def lineDrain (s : State) : State := { s with txq := s.txq.tail }

/-- n strobes `tx_ready` with nothing between them. -/
def lineDrainN : Nat → State → State
  | 0, s => s
  | n + 1, s => lineDrainN n (lineDrain s)

/-- The line takes one command frame that TXQ holds at its head. -/
def lineTakeFrame (f : Frame) (s : State) : Result :=
  if s.txq.take frameLen = f.toList then .next (lineDrainN frameLen s)
  else .fault .frameNotQueued

/-! ### The package buffer (R33) -/

/-- The list with c at index k; a gap before it is filled with 0x00. -/
def writeAt : List Byte → Nat → Byte → List Byte
  | [], 0, c => [c]
  | [], k + 1, c => 0x00 :: writeAt [] k c
  | _ :: bs, 0, c => c :: bs
  | b :: bs, k + 1, c => b :: writeAt bs k c

/-- R181, R185, R186: PKG_LEN ← 0, PKG_BUF[*] ← 0x00, PKG_HEX_OK ← 0. -/
def pkgClear (s : State) : State := { s with pkgLen := 0, pkgBuf := [], stat.pkgHexOk := false }

/-- R183: PKG_BUF[PKG_LEN] ← c, PKG_LEN ← PKG_LEN + 1. The host sees neither until the completing tick (R38, `hostPkgLen`). -/
def pkgAppend (c : Byte) (s : State) : State :=
  { s with pkgBuf := writeAt s.pkgBuf s.pkgLen.toNat c, pkgLen := s.pkgLen + 1 }

/-! ### Acceptance and completion (R222, R223) -/

/-- R222: a CTRL write while BUSY is dropped and recorded. -/
def flagOverlap (s : State) : State := { s with err.overlap := true, faultBits.overlap := true }

/-- R222: an illegal CTRL value is dropped and recorded. -/
def flagIllegal (s : State) : State := { s with err.illegalOp := true, faultBits.illegalOp := true }

/-- R222 for a legal OP: refused while BUSY, else the operation's acceptance rule runs in the same step. -/
def request (accept : State → State) (s : State) : Result :=
  if s.stat.busy then .next (flagOverlap s) else .next (accept s)

/-- R222 for an illegal CTRL value: both ERR bits can be set by one write. -/
def requestIllegal (s : State) : State :=
  if s.stat.busy then flagOverlap (flagIllegal s) else flagIllegal s

/-- R123, R124, R125, R201: a single-step operation's last two writes. -/
def completeNow (op : Byte) (s : State) : State := { s with lastOp := op, stat.done := true }

/-- R141, R181: the acceptance writes of a multi-tick operation. -/
def startOp (op : Byte) (phase : FsmCode) (s : State) : State :=
  { s with lastOp := op, stat := { s.stat with busy := true, done := false }, fsm := phase }

/-- R223 `Finish(st, loc)`: the one way a multi-tick operation ends, and this block's only "exception entry" (R220). -/
def finish (st : Byte) (loc : Bool) (s : State) : State :=
  { s with resStatus := st, stat := { s.stat with isLocal := loc, busy := false, done := true }, fsm := fsmIdle }

/-- R200 with no valid ack: TYPE_MATCH ← 0 and CMD_STATUS ← the local status, with RESP_VALID ← 0. -/
def noAck (st : Byte) (s : State) : State :=
  { s with stat := { s.stat with respValid := false, typeMatch := false }, cmdStatus := st }

/-! ### Host register access (R61 to R64) -/

/-- Is READ_PKG in progress, that is, is a package being accumulated in PKG_BUF and PKG_LEN (R182, R183)? -/
def State.accumulating (s : State) : Bool := s.fsm == fsmPkgSync || s.fsm == fsmPkgRead

/-- R38, R74, R223, R253: PKG_LEN as the host sees it. While READ_PKG is in progress it stays at the value its acceptance gave it
(R181), and the completing tick shows what has been accumulated (log entry 16). -/
def State.hostPkgLen (s : State) : Byte := if s.accumulating then 0x00 else s.pkgLen

/-- R33, R38: PKG_BUF[k] as the host sees it: 0x00 from the visible PKG_LEN on. -/
def State.hostPkgChar (s : State) (k : Nat) : Byte := if k < s.hostPkgLen.toNat then s.pkgChar k else 0x00

/-- R33, R38: PKG_RAW[j], where it has a value the host can see. -/
def State.hostPkgRaw (s : State) (j : Nat) : Option Byte := if s.accumulating then none else s.pkgRaw j

/-- R22 to R33, R38, R61, R62: the value a read of index i returns. -/
def hostReg (s : State) (i : RegIndex) : Byte :=
  match i.toNat with
  | 0x000 => 0x00
  | 0x001 => s.stat.toByte
  | 0x002 => s.err.toByte
  | 0x003 => s.fsm.setWidth 8
  | 0x004 => s.cmdOpcode
  | 0x005 => s.cmdP1
  | 0x006 => s.cmdP2
  | 0x007 => s.cmdP3
  | 0x008 => s.sentOpcode
  | 0x009 => s.resType
  | 0x00A => s.resQ1
  | 0x00B => s.resQ2
  | 0x00C => s.resStatus
  | 0x00D => s.cmdStatus
  | 0x00E => s.cksum
  | 0x00F => s.hostPkgLen
  | 0x010 => s.lastOp
  | n =>
    if 0x018 ≤ n ∧ n ≤ 0x01F then s.txf.get (n - 0x018)
    else if 0x020 ≤ n ∧ n ≤ 0x027 then s.rxf.get (n - 0x020)
    else if 0x028 ≤ n ∧ n ≤ 0x02F then s.frameIn.get (n - 0x028)
    else if 0x100 ≤ n ∧ n < 0x100 + s.cfg.pkgMaxChars then s.hostPkgChar (n - 0x100)
    else if 0x200 ≤ n ∧ n < 0x200 + s.cfg.pkgMaxChars / 2 then (s.hostPkgRaw (n - 0x200)).getD 0x00
    else 0x00

/-- R33, U4: is a read of index i a read of PKG_RAW where it has no value? -/
def readsEmptyRaw (s : State) (i : RegIndex) : Bool :=
  0x200 ≤ i.toNat && i.toNat < 0x200 + s.cfg.pkgMaxChars / 2 && (s.hostPkgRaw (i.toNat - 0x200)).isNone

/-- R253: the result registers RES_*, CMD_STATUS, RXF, PKG_*. STAT itself is what the host polls. -/
def isResultIndex (s : State) (i : RegIndex) : Bool :=
  (0x009 ≤ i.toNat && i.toNat ≤ 0x00D) || i.toNat == 0x00F || (0x020 ≤ i.toNat && i.toNat ≤ 0x027) ||
    (0x100 ≤ i.toNat && i.toNat < 0x100 + s.cfg.pkgMaxChars) ||
    (0x200 ≤ i.toNat && i.toNat < 0x200 + s.cfg.pkgMaxChars / 2)

/-- R30, R38, R253, U5, I12: is a read of index i one that has no meaning now? -/
def readsStale (s : State) (i : RegIndex) : Bool :=
  (s.stat.busy && isResultIndex s i) || (!s.stat.respValid && 0x009 ≤ i.toNat && i.toNat ≤ 0x00B)

/-- R61 `HostRead(i)`: the value goes to the port, no state of the block changes; a read the spec gives no meaning is recorded
(log entries 6, 7, 9). -/
def hostRead (i : RegIndex) (s : State) : State :=
  { s with
    hostRdata := hostReg s i
    faultBits.pkgRawRead := s.faultBits.pkgRawRead || readsEmptyRaw s i
    faultBits.staleRead := s.faultBits.staleRead || readsStale s i }

/-- R62, R63, R64: `HostWrite(i, v)` to any index but CTRL. -/
def hostStore (i : RegIndex) (v : Byte) (s : State) : State :=
  match i.toNat with
  | 0x002 => { s with err := s.err.clear v }
  | 0x004 => { s with cmdOpcode := v }
  | 0x005 => { s with cmdP1 := v }
  | 0x006 => { s with cmdP2 := v }
  | 0x007 => { s with cmdP3 := v }
  | n => if 0x028 ≤ n ∧ n ≤ 0x02F then { s with frameIn := s.frameIn.set (n - 0x028) v } else s

/-! ### Reset (R250) -/

/-- R250: every element of the block's state takes its reset value; the parameters, the coming inputs, the port's last value
and the fault record are the model's own and stay (log entry 10). -/
def resetBlock (s : State) : State :=
  { State.reset with cfg := s.cfg, inputs := s.inputs, hostRdata := s.hostRdata, faultBits := s.faultBits }

end Sys2Proof.Machine
end

