-- ==== Sys2Proof/Machine/CodecOps.lean ====
section
/-! DEFINITION. The codec family: ENCODE, CHECKSUM, DECODE (40_codec.md section 2). -/

namespace Sys2Proof.Machine

open Sys2Proof

/-- R123: ENCODE's effect once accepted. -/
def encodeEffect (s : State) : State :=
  completeNow 0x01 { s with txf := encodeCommand s.cmdOpcode s.cmdP1 s.cmdP2 s.cmdP3 }

/-- ENCODE (R123), accepted by R222. -/
def execEncode (s : State) : Result := request encodeEffect s

/-- R124: CHECKSUM's effect once accepted. -/
def checksumEffect (s : State) : State := completeNow 0x02 { s with cksum := checksum s.frameIn }

/-- CHECKSUM (R124), accepted by R222. -/
def execChecksum (s : State) : Result := request checksumEffect s

/-- R125: the writes of a valid frame: RES_*, RES_STATUS ← q3, LOCAL ← 0. -/
def decodeValid (a : DecodedAck) (s : State) : State :=
  { s with
    resType := a.type, resQ1 := a.q1, resQ2 := a.q2, resStatus := a.status
    stat := { s.stat with respValid := true, isLocal := false } }

/-- R125: the writes of an invalid frame: RES_TYPE, RES_Q1, RES_Q2 stay, RES_STATUS ← FAIL, LOCAL ← 1. -/
def decodeInvalid (s : State) : State :=
  { s with resStatus := statusFail, stat := { s.stat with respValid := false, isLocal := true } }

/-- R125, R200, R201: TYPE_MATCH and CMD_STATUS from a TypeCheck's answer. -/
def setVerdict (m : Bool × Byte) (s : State) : State :=
  { s with stat.typeMatch := m.1, cmdStatus := m.2 }

/-- R125: the fields and RES_STATUS of a decoded frame. -/
def decodeResult (a : DecodedAck) (s : State) : State :=
  if a.valid then decodeValid a { s with stat.cksumOk := true } else decodeInvalid { s with stat.cksumOk := false }

/-- R125: the rest of DECODE: TypeCheck against CMD_OPCODE with the RES_STATUS just written, then DONE. -/
def decodeVerdict (a : DecodedAck) (s : State) : State :=
  completeNow 0x03 (setVerdict (typeCheck s.cmdOpcode a.valid a.type s.resStatus) s)

/-- R125: DECODE's effect once accepted. -/
def decodeEffect (s : State) : State :=
  decodeVerdict (decodeAck s.frameIn) (decodeResult (decodeAck s.frameIn) s)

/-- DECODE (R125), accepted by R222. -/
def execDecode (s : State) : Result := request decodeEffect s

end Sys2Proof.Machine
end

