-- ==== Sys2Proof/Machine/Exchange.lean ====
section
/-! DEFINITION. EXCHANGE: its acceptance, its ticks and its three completions (41_exchange.md). -/

namespace Sys2Proof.Machine

open Sys2Proof

/-- R141: acceptance: latch, flush, encode, write, and wait for the line. -/
def exchangeAccept (s : State) : State :=
  let s1 := rxFlush { s with sentOpcode := s.cmdOpcode }
  let f := encodeCommand s.cmdOpcode s.cmdP1 s.cmdP2 s.cmdP3
  startOp 0x04 fsmTxWait (txWrite f.toList { s1 with txf := f })

/-- EXCHANGE (R140), accepted by R222. -/
def execExchange (s : State) : Result := request exchangeAccept s

/-- R146: a valid ack. RXQ is not flushed (`90_conflicts.md` C3). -/
def exchangeSuccess (a : DecodedAck) (s : State) : State :=
  let s1 : State :=
    { s with
      resType := a.type, resQ1 := a.q1, resQ2 := a.q2
      stat := { s.stat with respValid := true, cksumOk := true } }
  finish a.status false (setVerdict (typeCheck s.sentOpcode true a.type a.status) s1)

/-- R147, R148: the writes the two failures share: flush, no response, CKSUM_OK ← 0, the local status. -/
def exchangeFail (st : Byte) (s : State) : State :=
  finish st true (noAck st { rxFlush s with stat.cksumOk := false })

/-- R147: an invalid checksum. RXF keeps the rejected frame. -/
def exchangeChecksumFail (s : State) : State := exchangeFail statusFail s

/-- R148: a budget is exhausted. RXF is unchanged. -/
def exchangeTimeout (s : State) : State := exchangeFail statusSerialTimeout s

/-- R145 ReadFrame: the eight oldest bytes are the candidate ack. -/
def readFrame (s : State) : Result :=
  orFault (rxPopN frameLen s) fun (bs, s1) =>
    let f := Frame.ofBytes bs
    let s2 : State := { s1 with rxf := f }
    let a := decodeAck f
    if a.valid then .next (exchangeSuccess a s2) else .next (exchangeChecksumFail s2)

/-- R142: a TX_WAIT tick. -/
def txWaitTick (s : State) : State :=
  if txDone s then { s with outerCnt := s.cfg.budgetTicks, fsm := fsmWait } else s

/-- R143: the availability check of a WAIT tick. -/
def waitPoll (s : State) : State :=
  if frameLen ≤ rxAvail s then { s with resyncCnt := s.cfg.budgetTicks, fsm := fsmResync } else s

/-- R143: a WAIT tick: the budget first, then one check. -/
def waitTick (s : State) : State :=
  if s.outerCnt = 0 then exchangeTimeout s else waitPoll { s with outerCnt := s.outerCnt - 1 }

/-- R144: the poll of a RESYNC tick: discard one byte, read the frame, wait, or go back to WAIT with the marker kept (D6). -/
def resyncPoll (s : State) : Result :=
  if rxAvail s = 0 then .next s
  else orFault (rxPeek s) fun head =>
    if head ≠ marker then orFault (rxPop s) fun (_, s1) => .next s1
    else if frameLen ≤ rxAvail s then readFrame s
    else .next { s with fsm := fsmWait }

/-- R144: a RESYNC tick: the sub-budget first, then one poll. -/
def resyncTick (s : State) : Result :=
  if s.resyncCnt = 0 then .next (exchangeTimeout s) else resyncPoll { s with resyncCnt := s.resyncCnt - 1 }

end Sys2Proof.Machine
end

