-- ==== Sys2Proof/Machine/Package.lean ====
section
/-! DEFINITION. READ_PKG: its acceptance, its ticks and its three completions (42_package.md). -/

namespace Sys2Proof.Machine

open Sys2Proof

/-- R181: acceptance: clear the package, load the one budget. RXQ is not flushed. -/
def readPkgAccept (s : State) : State :=
  startOp 0x05 fsmPkgSync { pkgClear s with outerCnt := s.cfg.budgetTicks }

/-- READ_PKG (R180), accepted by R222. -/
def execReadPkg (s : State) : Result := request readPkgAccept s

/-- R184 PkgSuccess: the terminating marker stays in RXQ. -/
def pkgSuccess (s : State) : State :=
  finish statusSuccess true (noAck statusSuccess { s with stat.pkgHexOk := s.pkgIsHex })

/-- R185, R186: the writes the two failures share: flush, clear the package, the local status. -/
def pkgFail (st : Byte) (s : State) : State := finish st true (noAck st (pkgClear (rxFlush s)))

/-- R185 PkgTimeout. -/
def pkgTimeout (s : State) : State := pkgFail statusSerialTimeout s

/-- R186 PkgOverflow. -/
def pkgOverflow (s : State) : State := pkgFail statusFail s

/-- R182: the poll of a PKG_SYNC tick: one byte, consumed whatever it is. -/
def pkgSyncPoll (s : State) : Result :=
  if rxAvail s = 0 then .next s
  else orFault (rxPop s) fun (b, s1) =>
    if b = marker then .next { s1 with fsm := fsmPkgRead } else .next s1

/-- R182: a PKG_SYNC tick: the budget first, then one poll. -/
def pkgSyncTick (s : State) : Result :=
  if s.outerCnt = 0 then .next (pkgTimeout s) else pkgSyncPoll { s with outerCnt := s.outerCnt - 1 }

/-- R183: the poll of a PKG_READ tick: a peeked marker ends a non-empty package and is never consumed. -/
def pkgReadPoll (s : State) : Result :=
  if rxAvail s = 0 then .next s
  else orFault (rxPeek s) fun head =>
    if head = marker then
      if 0 < s.pkgLen.toNat then .next (pkgSuccess s) else .next s
    else orFault (rxPop s) fun (c, s1) =>
      if s1.pkgLen.toNat = s1.cfg.pkgMaxChars then .next (pkgOverflow s1) else .next (pkgAppend c s1)

/-- R183: a PKG_READ tick: the budget first, then one poll. -/
def pkgReadTick (s : State) : Result :=
  if s.outerCnt = 0 then .next (pkgTimeout s) else pkgReadPoll { s with outerCnt := s.outerCnt - 1 }

end Sys2Proof.Machine
end

