-- ==== Sys2Proof/Machine/Control.lean ====
section
/-! DEFINITION. The session controller's tick: FSM selects the rule (R21, R34, R39). -/

namespace Sys2Proof.Machine

open Sys2Proof

/-- One CTL tick. IDLE changes nothing (R39); codes 6 and 7 are the model's fault (R34; log entry 8). -/
def ctlTick (s : State) : Result :=
  if s.fsm = fsmIdle then .next s
  else if s.fsm = fsmTxWait then .next (txWaitTick s)
  else if s.fsm = fsmWait then .next (waitTick s)
  else if s.fsm = fsmResync then resyncTick s
  else if s.fsm = fsmPkgSync then pkgSyncTick s
  else if s.fsm = fsmPkgRead then pkgReadTick s
  else .fault .fsmCode

end Sys2Proof.Machine
end

