-- ==== Sys2Proof/Machine/ResultOps.lean ====
section
/-! DEFINITION. The result-mapping family: CHECK_TYPE (43_result.md). -/

namespace Sys2Proof.Machine

open Sys2Proof

/-- R201: CHECK_TYPE's effect once accepted. -/
def checkTypeEffect (s : State) : State :=
  completeNow 0x06 (setVerdict (typeCheck s.cmdOpcode s.stat.respValid s.resType s.resStatus) s)

/-- CHECK_TYPE (R201), accepted by R222. -/
def execCheckType (s : State) : Result := request checkTypeEffect s

end Sys2Proof.Machine
end

