-- ==== Sys2Proof/Machine/Wire.lean ====
section
/-! DEFINITION. The wire-format family (R93, R94, R95, R99). As instructions they are the LINE's transfer of that unit: an
outbound frame leaves TXQ (R73), an inbound unit enters RXQ byte by byte in offset order (R65, R71). DESIGN CHOICE, log entry 3:
the spec lists them as formats, and what CTL does with the bytes is in its ticks. -/

namespace Sys2Proof.Machine

open Sys2Proof

/-- CMD_FRAME (R93): the line takes this command frame from TXQ. -/
def execCmdFrame (o p1 p2 p3 : Byte) (s : State) : Result := lineTakeFrame (encodeCommand o p1 p2 p3) s

/-- WIRE_CMD_GET_USER_COUNT (R95): the line takes the frame of opcode 0x09 with zero parameters from TXQ. -/
def execWireCmdGetUserCount (s : State) : Result := lineTakeFrame (encodeCommand 0x09 0x00 0x00 0x00) s

/-- ACK_FRAME (R94): the line delivers the frame's eight bytes, offset 0 first. -/
def execAckFrame (t q1 q2 st r k z : Byte) (s : State) : Result :=
  .next (linePushAll (ackBytes t q1 q2 st r k z).toList s)

/-- DATA_PACKAGE (R99): the line delivers the leading marker, the characters and the trailing marker. -/
def execDataPackage (chars : List Byte) (s : State) : Result :=
  .next (linePushAll (marker :: (chars ++ [marker])) s)

end Sys2Proof.Machine
end

