-- ==== Sys2Proof/Machine/Dispatch.lean ====
section
/-! DEFINITION. exec: one arm per constructor of Instr. -/

namespace Sys2Proof.Machine

open Sys2Proof

/-- The meaning of each instruction. -/
def exec (i : Instr) (s : State) : Host.Outcome State Fault Refusal :=
  match i with
  | .encodeOp => Sys2Proof.Machine.execEncode s
  | .checksumOp => Sys2Proof.Machine.execChecksum s
  | .decodeOp => Sys2Proof.Machine.execDecode s
  | .exchangeOp => Sys2Proof.Machine.execExchange s
  | .readPkgOp => Sys2Proof.Machine.execReadPkg s
  | .checkTypeOp => Sys2Proof.Machine.execCheckType s
  | .cmdFrame o p1 p2 p3 => Sys2Proof.Machine.execCmdFrame o p1 p2 p3 s
  | .ackFrame t q1 q2 st r k z => Sys2Proof.Machine.execAckFrame t q1 q2 st r k z s
  | .wireCmdGetUserCount => Sys2Proof.Machine.execWireCmdGetUserCount s
  | .dataPackage chars => Sys2Proof.Machine.execDataPackage chars s

end Sys2Proof.Machine
end

