-- ==== Sys2Proof/Machine/Agents.lean ====
section
/-! DEFINITION. What each input does: where its bytes are decoded and run, and the agents' plain steps (R10, R11, R74). -/

namespace Sys2Proof.Machine

open Sys2Proof

/-- R62, R63, R64: a host write. A write to CTRL is decoded and run (R90, R222); every other index only stores. -/
def hostWrite (i : RegIndex) (v : Byte) (s : State) : Result :=
  if i = 0x000 then
    match decode .ctrl [v] with
    | .ok (op, _) => exec op s
    | .error _ => .next (requestIllegal s)
  else .next (hostStore i v s)

/-- The line takes up to one frame: TXQ's own bytes are decoded and run; fewer or other bytes drain one by one (R73, R103). -/
def takeOutbound (s : State) : Result :=
  match decode .tx s.txq with
  | .ok (i, _) => exec i s
  | .error _ => .next (lineDrainN frameLen s)

/-- The line delivers a run of bytes: a run that is one whole unit of the format is run as that instruction, any other run is
pushed as it stands (R71: any of the 256 values). -/
def deliverInbound (p : Port) (bytes : List Byte) (s : State) : Result :=
  match decodeWhole p bytes with
  | some i => exec i s
  | none => .next (linePushAll bytes s)

/-- One step of the agent an input names. `waitDone` is no step of a block's agent and is handled by `runInputs`. -/
def agentStep (e : Input) (s : State) : Result :=
  match e with
  | .hostWrite i v => hostWrite i v s
  | .hostRead i => .next (hostRead i s)
  | .linePush b => .next (linePush b s)
  | .txReady => .next (lineDrain s)
  | .tick => ctlTick s
  | .rst => .next (resetBlock s)
  | .txFrame => takeOutbound s
  | .rxFrame bytes => deliverInbound .rxFrame bytes s
  | .rxPackage bytes => deliverInbound .rxPackage bytes s
  | .waitDone => .next s

/-- The next step in the total order of R74: the oldest input; with none left CTL ticks on (log entry 1). A `waitDone` that
stands first lets CTL tick until STAT.DONE = 1 (R102; log entry 14). -/
def runInputs (s : State) : Result :=
  match s.inputs with
  | [] => ctlTick s
  | .waitDone :: rest => if s.stat.done then .next { s with inputs := rest } else ctlTick s
  | e :: rest => agentStep e { s with inputs := rest }

/-- Places the bytes of a word, as the opcode table numbers it, where the next step reads its instruction: an 8-bit word is the
next host write to CTRL; an outbound frame stands at TXQ's head and the line takes it next; anything else is what the line delivers next
(log entries 4, 15). -/
def placeWord (s : State) (nbits w : Nat) : State :=
  if nbits = 8 then { s with inputs := .hostWrite 0x000 (BitVec.ofNat 8 w) :: s.inputs }
  else
    match decodeTableWord nbits w with
    | some i =>
      match i.port with
      | .tx => { s with txq := wordBytes (nbits / 8) w ++ s.txq, inputs := .txFrame :: s.inputs }
      | .rxFrame => { s with inputs := .rxFrame (wordBytes (nbits / 8) w) :: s.inputs }
      | .rxPackage => { s with inputs := .rxPackage (wordBytes (nbits / 8) w) :: s.inputs }
      | .ctrl => { s with inputs := .hostWrite 0x000 (BitVec.ofNat 8 w) :: s.inputs }
    | none => { s with inputs := .rxPackage (wordBytes (nbits / 8) w) :: s.inputs }

end Sys2Proof.Machine
end

