-- ==== Sys2Proof/Machine/Step.lean ====
section
/-! DEFINITION. One step of the machine, and where an instruction's word is placed for the next step. -/

namespace Sys2Proof.Machine

open Sys2Proof

/-- One atomic step of one agent (R10, R74). -/
def step (s : State) : Host.Outcome State Fault Refusal := runInputs s

/-- The state whose very next step runs the instruction of this opcode-table word. -/
def State.withFetchWord (s : State) (nbits w : Nat) : State := placeWord s nbits w

end Sys2Proof.Machine
end

