-- ==== Sys2Proof/Machine/Assembler.lean ====
section
/-! DEFINITION. The spec's notation for programs (R102, R103): each line is the run of inputs it expands to. -/

namespace Sys2Proof.Machine

open Sys2Proof

/-- R102's pseudo-instructions and primitives, and R103's environment lines. -/
inductive AsmLine where
  | encode (o a b c : Byte)
  | checksum (f : Frame)
  | decode (f : Frame)
  | exchange (o a b c : Byte)
  | readPkg
  | checkType (o : Byte)
  | rd (i : RegIndex)
  | wr (i : RegIndex) (v : Byte)
  | waitDone
  | line (bytes : List Byte)
  | drain
  | tick (n : Nat)
deriving DecidableEq, Repr

/-- R102: the four host writes of CMD_OPCODE and CMD_P1 to CMD_P3. -/
def wrCmd (o a b c : Byte) : List Input :=
  [.hostWrite 0x004 o, .hostWrite 0x005 a, .hostWrite 0x006 b, .hostWrite 0x007 c]

/-- R102: the eight host writes of FRAME_IN. -/
def wrFrame (f : Frame) : List Input :=
  [.hostWrite 0x028 f.o0, .hostWrite 0x029 f.o1, .hostWrite 0x02A f.o2, .hostWrite 0x02B f.o3,
   .hostWrite 0x02C f.o4, .hostWrite 0x02D f.o5, .hostWrite 0x02E f.o6, .hostWrite 0x02F f.o7]

/-- R102, R103: the expansion of a line. `DRAIN` is one frame's worth of drains, since TXQ holds at most eight bytes (R37). -/
def AsmLine.expand : AsmLine → List Input
  | .encode o a b c => wrCmd o a b c ++ [.hostWrite 0x000 0x01]
  | .checksum f => wrFrame f ++ [.hostWrite 0x000 0x02]
  | .decode f => wrFrame f ++ [.hostWrite 0x000 0x03]
  | .exchange o a b c => wrCmd o a b c ++ [.hostWrite 0x000 0x04]
  | .readPkg => [.hostWrite 0x000 0x05]
  | .checkType o => [.hostWrite 0x004 o, .hostWrite 0x000 0x06]
  | .rd i => [.hostRead i]
  | .wr i v => [.hostWrite i v]
  | .waitDone => [.waitDone]
  | .line bytes => bytes.map .linePush
  | .drain => [.txFrame]
  | .tick n => List.replicate n .tick

/-- R102: the encoding of a program is its sequence of host writes; with R103 the environment's lines stand between them. -/
def assemble (p : List AsmLine) : List Input := p.flatMap AsmLine.expand

end Sys2Proof.Machine
end

