-- ==== Sys2Proof/Safety.lean ====
section
/-! DEFINITION. What the claims are stated in: the invariants of the block, a clean run, and the counts over coming inputs. -/

namespace Sys2Proof.Machine

open Sys2Proof

/-- The invariant every step keeps: legal parameters, a legal phase that agrees with BUSY, bounded counters and queues, TXQ only
ever a tail of the frame in TXF while the line is waited for, and the package buffer as R33 describes it. -/
structure State.Inv (s : State) : Prop where
  /-- R5. -/
  cfgValid : s.cfg.Valid
  /-- R21, R34: FSM takes only the six codes. -/
  fsmLegal : s.fsm.toNat ≤ 5
  /-- R23: BUSY = 1 exactly when FSM ≠ IDLE. -/
  busyIff : s.stat.busy = true ↔ s.fsm ≠ fsmIdle
  /-- R23: DONE is cleared at acceptance and set at completion. -/
  busyNotDone : s.stat.busy = true → s.stat.done = false
  /-- R35: OUTER_CNT is loaded with BUDGET_TICKS and only ever decremented. -/
  outerBound : s.outerCnt ≤ s.cfg.budgetTicks
  /-- R35: RESYNC_CNT likewise. -/
  resyncBound : s.resyncCnt ≤ s.cfg.budgetTicks
  /-- R36. -/
  rxqBound : s.rxq.length ≤ s.cfg.rxDepth
  /-- R37, R142: bytes stand in TXQ only while EXCHANGE waits for the line. -/
  txqPhase : s.txq ≠ [] → s.fsm = fsmTxWait
  /-- R27: TXF holds the frame on the wire. -/
  txqTail : s.txq <:+ s.txf.toList
  /-- R33: PKG_LEN is the number of characters accumulated. -/
  pkgLenIs : s.pkgLen.toNat = s.pkgBuf.length
  /-- R22: PKG_LEN is at most PKG_MAX_CHARS. -/
  pkgLenBound : s.pkgBuf.length ≤ s.cfg.pkgMaxChars
  /-- R99, R183: no character of the package is the marker. -/
  pkgNoMarker : marker ∉ s.pkgBuf
  /-- R181: the package is cleared at READ_PKG's start and stays empty until the leading marker. -/
  emptyWhileSyncing : s.fsm = fsmPkgSync → s.pkgBuf = []
  /-- R23: PKG_HEX_OK is cleared at READ_PKG's start. -/
  hexWhileReading : s.fsm = fsmPkgSync ∨ s.fsm = fsmPkgRead → s.stat.pkgHexOk = false
  /-- R33: the equation of PKG_HEX_OK, while no package is being accumulated. -/
  hexRule : s.fsm ≠ fsmPkgRead → s.stat.pkgHexOk = s.pkgIsHex
  /-- R221: an ERR bit that stands has been recorded as a fault. -/
  illegalRecorded : s.err.illegalOp = true → s.faultBits.illegalOp = true
  overlapRecorded : s.err.overlap = true → s.faultBits.overlap = true
  overrunRecorded : s.err.rxOverrun = true → s.faultBits.rxOverrun = true

/-- The invariant of the result registers: R204's table, read from RESP_VALID and TYPE_MATCH. -/
structure State.ResultInv (s : State) : Prop where
  /-- R23, R31: a valid response is never a local status. -/
  respNotLocal : s.stat.respValid = true → s.stat.isLocal = false
  /-- R23: RESP_VALID is set only with CKSUM_OK. -/
  respCksum : s.stat.respValid = true → s.stat.cksumOk = true
  /-- R23, R200: TYPE_MATCH needs a valid ack. -/
  matchResp : s.stat.typeMatch = true → s.stat.respValid = true
  /-- R204 row (d): the device's status reaches CMD_STATUS. -/
  matchStatus : s.stat.typeMatch = true → s.cmdStatus = s.resStatus
  /-- R204 row (c): a mismatch is FAIL. -/
  mismatchFail : s.stat.respValid = true → s.stat.typeMatch = false → s.cmdStatus = 0x01
  /-- R204 rows (a), (b), R200: without a valid ack the local status passes through. -/
  localStatus : s.stat.respValid = false → s.cmdStatus = s.resStatus
  /-- R101: the codes the block itself produces. -/
  localCodes : s.stat.isLocal = true → s.resStatus = 0x00 ∨ s.resStatus = 0x01 ∨ s.resStatus = 0x13

/-- R221, R222: a run in which no step raised an event that a model treats as a fault. -/
def State.Clean (s : State) : Prop := s.faultBits = FaultBits.none

/-- k steps of the machine from s. -/
def run (k : Nat) (s : State) : Host.Outcome State Fault Refusal := core.run k s

/-- A safe run: k steps that neither stop nor record a fault. -/
def SafeRun (k : Nat) (s : State) : Prop := ∃ t, run k s = .next t ∧ t.Clean

/-- Is this input a CTL tick? -/
def Input.isTick : Input → Bool
  | .tick => true
  | _ => false

/-- The number of CTL ticks among coming inputs. -/
def tickCount (es : List Input) : Nat := (es.filter Input.isTick).length

/-- Inputs other than a reset and the host's wait: what HOST, LINE and CTL may do while an operation runs. -/
def Input.isPlain : Input → Bool
  | .rst => false
  | .waitDone => false
  | _ => true

/-- The register indices a host write stores to or acts on (R22, R63, R64). -/
def writableIndex (i : RegIndex) : Bool :=
  i.toNat == 0x000 || i.toNat == 0x002 || (0x004 ≤ i.toNat && i.toNat ≤ 0x007) || (0x028 ≤ i.toNat && i.toNat ≤ 0x02F)

/-- R22: the indices that name a register in a block with these parameters. -/
def mappedIndex (c : Config) (i : RegIndex) : Bool :=
  i.toNat ≤ 0x010 || (0x018 ≤ i.toNat && i.toNat ≤ 0x02F) ||
    (0x100 ≤ i.toNat && i.toNat < 0x100 + c.pkgMaxChars) ||
    (0x200 ≤ i.toNat && i.toNat < 0x200 + c.pkgMaxChars / 2)

end Sys2Proof.Machine

namespace Sys2Proof

/-- The frame with byte k exclusive-ored with m (R126). -/
def Frame.flip (f : Frame) (k : Nat) (m : Byte) : Frame := f.set k (f.get k ^^^ m)

end Sys2Proof
end

