-- ==== Sys2Proof/Certificates/Slice0/Obligations.lean ====
section
/-! DEFINITION. The statements for the provers, from the spec's numbered rules. -/

open Sys2Proof Sys2Proof.Machine

/-! ### Encodings (30_encoding.md) -/

/-- R91: the CTRL values that name an operation are exactly 0x01 to 0x06, each its own. -/
def Obligations.CtrlValuesNameSixOperations : Prop :=
  decodeCtrl 0x01 = .ok .encodeOp ∧ decodeCtrl 0x02 = .ok .checksumOp ∧ decodeCtrl 0x03 = .ok .decodeOp ∧
  decodeCtrl 0x04 = .ok .exchangeOp ∧ decodeCtrl 0x05 = .ok .readPkgOp ∧ decodeCtrl 0x06 = .ok .checkTypeOp ∧
  ∀ v : Byte, (∃ i, decodeCtrl v = .ok i) ↔ 1 ≤ v.toNat ∧ v.toNat ≤ 6

/-- R91, R93, R94, R95, R99: words written out from the spec's encodings decode to the instruction they stand for. -/
def Obligations.WrittenWordsDecode : Prop :=
  decode .ctrl [0b00000100] = .ok (.exchangeOp, []) ∧
  decode .tx [0xF5, 0x01, 0x12, 0x34, 0x56, 0x00, 0x71, 0xF5] = .ok (.cmdFrame 0x01 0x12 0x34 0x56, []) ∧
  decode .tx [0xF5, 0x09, 0x00, 0x00, 0x00, 0x00, 0x09, 0xF5] = .ok (.wireCmdGetUserCount, []) ∧
  decode .rxFrame [0xF5, 0x09, 0x00, 0x05, 0x00, 0x00, 0x0C, 0xF5]
    = .ok (.ackFrame 0x09 0x00 0x05 0x00 0x00 0x0C 0xF5, []) ∧
  decode .rxPackage [0xF5, 0x41, 0x42, 0x31, 0x32, 0xF5, 0x99]
    = .ok (.dataPackage [0x41, 0x42, 0x31, 0x32], [0x99])

/-- R91, R93, R94, R95, R99: decoding the encoding of a well-formed instruction gives it back, whatever bytes follow. -/
def Obligations.DecodeOfEncodeIsTheInstruction : Prop :=
  ∀ (i : Instr) (rest : List Byte), i.wellFormed = true → decode i.port (encode i ++ rest) = .ok (i, rest)

/-- The other direction: what decodes at a port is a well-formed instruction of that port, and its encoding is what was read. -/
def Obligations.DecodedBytesAreTheEncoding : Prop :=
  ∀ (p : Port) (bs rest : List Byte) (i : Instr), decode p bs = .ok (i, rest) →
    i.wellFormed = true ∧ i.port = p ∧ bs = encode i ++ rest

/-- The model's placing of an opcode-table word (log entries 4, 15): the very next step runs exactly that instruction; an
outbound frame is run with its own bytes at TXQ's head. -/
def Obligations.PlacedWordIsRunNext : Prop :=
  ∀ (s : State) (nbits w : Nat) (i : Instr), decodeTableWord nbits w = some i →
    step (s.withFetchWord nbits w) = exec i (if i.port = .tx then { s with txq := encode i ++ s.txq } else s)

/-! ### The codec (40_codec.md) -/

/-- R93, R97, R121: the eight bytes of a command frame. -/
def Obligations.CommandFrameLayout : Prop :=
  ∀ o p1 p2 p3 : Byte, (encodeCommand o p1 p2 p3).toList = [0xF5, o, p1, p2, p3, 0x00, o ^^^ p1 ^^^ p2 ^^^ p3, 0xF5]

/-- R126: the four codec laws. Round trip; single-bit detection in offsets 1 to 6; the blind spots (two equal flips in two of
the offsets 1 to 6, a swap of two body bytes, offsets 0 and 7, offset 5 consistently with the checksum); linearity. -/
def Obligations.CodecLaws : Prop :=
  (∀ o p1 p2 p3 : Byte, decodeAck (encodeCommand o p1 p2 p3) = ⟨true, o, p1, p2, p3⟩) ∧
  (∀ (f : Frame) (k b : Nat), 1 ≤ k → k ≤ 5 → b < 8 →
    checksum (f.flip k (1#8 <<< b)) = checksum f ^^^ (1#8 <<< b)) ∧
  (∀ (f : Frame) (k b : Nat), 1 ≤ k → k ≤ 6 → b < 8 → (decodeAck f).valid = true →
    (decodeAck (f.flip k (1#8 <<< b))).valid = false) ∧
  (∀ (f : Frame) (j k b : Nat), 1 ≤ j → j ≤ 6 → 1 ≤ k → k ≤ 6 → j ≠ k → b < 8 → (decodeAck f).valid = true →
    (decodeAck ((f.flip j (1#8 <<< b)).flip k (1#8 <<< b))).valid = true) ∧
  (∀ (f : Frame) (j k : Nat), 1 ≤ j → j ≤ 5 → 1 ≤ k → k ≤ 5 → (decodeAck f).valid = true →
    (decodeAck ((f.set j (f.get k)).set k (f.get j))).valid = true) ∧
  (∀ (f : Frame) (a b : Byte), (decodeAck f).valid = true →
    (decodeAck { f with o0 := a, o7 := b }).valid = true ∧
    (decodeAck { f with o5 := a, o6 := f.o6 ^^^ f.o5 ^^^ a }).valid = true) ∧
  (∀ f g : Frame, checksum
      ⟨f.o0 ^^^ g.o0, f.o1 ^^^ g.o1, f.o2 ^^^ g.o2, f.o3 ^^^ g.o3, f.o4 ^^^ g.o4, f.o5 ^^^ g.o5, f.o6 ^^^ g.o6,
       f.o7 ^^^ g.o7⟩ = checksum f ^^^ checksum g)

/-! ### The host operations (40, 41, 42, 43): they complete, with this state and no other change -/

/-- R123: ENCODE. -/
def Obligations.EncodeCompletes : Prop :=
  ∀ s : State, s.stat.busy = false →
    exec .encodeOp s = .next { s with
      txf := ⟨0xF5, s.cmdOpcode, s.cmdP1, s.cmdP2, s.cmdP3, 0x00,
              s.cmdOpcode ^^^ s.cmdP1 ^^^ s.cmdP2 ^^^ s.cmdP3, 0xF5⟩
      lastOp := 0x01
      stat.done := true }

/-- R124: CHECKSUM. -/
def Obligations.ChecksumCompletes : Prop :=
  ∀ s : State, s.stat.busy = false →
    exec .checksumOp s = .next { s with
      cksum := s.frameIn.o1 ^^^ s.frameIn.o2 ^^^ s.frameIn.o3 ^^^ s.frameIn.o4 ^^^ s.frameIn.o5
      lastOp := 0x02
      stat.done := true }

/-- R125: DECODE, of a frame whose checksum matches and of one whose checksum does not. -/
def Obligations.DecodeCompletes : Prop :=
  ∀ s : State, s.stat.busy = false →
    (s.frameIn.o1 ^^^ s.frameIn.o2 ^^^ s.frameIn.o3 ^^^ s.frameIn.o4 ^^^ s.frameIn.o5 = s.frameIn.o6 →
      exec .decodeOp s = .next { s with
        resType := s.frameIn.o1, resQ1 := s.frameIn.o2, resQ2 := s.frameIn.o3, resStatus := s.frameIn.o4
        cmdStatus := if s.frameIn.o1 = s.cmdOpcode then s.frameIn.o4 else 0x01
        lastOp := 0x03
        stat := { s.stat with
          cksumOk := true, respValid := true, isLocal := false
          typeMatch := decide (s.frameIn.o1 = s.cmdOpcode), done := true } }) ∧
    (s.frameIn.o1 ^^^ s.frameIn.o2 ^^^ s.frameIn.o3 ^^^ s.frameIn.o4 ^^^ s.frameIn.o5 ≠ s.frameIn.o6 →
      exec .decodeOp s = .next { s with
        resStatus := 0x01
        cmdStatus := 0x01
        lastOp := 0x03
        stat := { s.stat with
          cksumOk := false, respValid := false, isLocal := true, typeMatch := false, done := true } })

/-- R201, R200: CHECK_TYPE. -/
def Obligations.CheckTypeCompletes : Prop :=
  ∀ s : State, s.stat.busy = false →
    exec .checkTypeOp s = .next { s with
      cmdStatus := if s.stat.respValid = false ∨ s.resType = s.cmdOpcode then s.resStatus else 0x01
      lastOp := 0x06
      stat := { s.stat with
        typeMatch := s.stat.respValid && decide (s.resType = s.cmdOpcode), done := true } }

/-- R141: EXCHANGE's accepting step: RXQ flushed, the frame latched and written behind what TXQ holds. -/
def Obligations.ExchangeIsAccepted : Prop :=
  ∀ s : State, s.stat.busy = false →
    exec .exchangeOp s = .next { s with
      sentOpcode := s.cmdOpcode
      rxq := []
      txf := ⟨0xF5, s.cmdOpcode, s.cmdP1, s.cmdP2, s.cmdP3, 0x00,
              s.cmdOpcode ^^^ s.cmdP1 ^^^ s.cmdP2 ^^^ s.cmdP3, 0xF5⟩
      txq := s.txq ++ [0xF5, s.cmdOpcode, s.cmdP1, s.cmdP2, s.cmdP3, 0x00,
              s.cmdOpcode ^^^ s.cmdP1 ^^^ s.cmdP2 ^^^ s.cmdP3, 0xF5]
      lastOp := 0x04
      stat := { s.stat with busy := true, done := false }
      fsm := 1 }

/-- R181: READ_PKG's accepting step: the package cleared, the one budget loaded, RXQ kept. -/
def Obligations.ReadPkgIsAccepted : Prop :=
  ∀ s : State, s.stat.busy = false →
    exec .readPkgOp s = .next { s with
      pkgLen := 0x00
      pkgBuf := []
      outerCnt := s.cfg.budgetTicks
      lastOp := 0x05
      stat := { s.stat with pkgHexOk := false, busy := true, done := false }
      fsm := 4 }

/-- R222, R254: each of the six operations, requested while BUSY, is dropped: ERR.OVERLAP (and the model's record of it, log entry
5) and nothing else changes. -/
def Obligations.RequestsWhileBusyAreRefused : Prop :=
  ∀ (s : State) (i : Instr), s.stat.busy = true → i.port = .ctrl →
    exec i s = .next { s with err := { s.err with overlap := true }, faultBits := { s.faultBits with overlap := true } }

/-- R222: what a write of v to CTRL does. An illegal value and a busy block each set their ERR bit (and the model's record of it,
log entry 5) and nothing else changes; otherwise the operation that v names runs in the same step. -/
def Obligations.CtrlWriteIsCheckedForAcceptance : Prop :=
  ∀ (s : State) (v : Byte) (rest : List Input), s.inputs = .hostWrite 0x000 v :: rest →
    ((16 ≤ v.toNat ∨ v.toNat % 16 = 0 ∨ 6 < v.toNat % 16) →
      step s = .next { s with
        inputs := rest
        err := { s.err with illegalOp := true, overlap := s.err.overlap || s.stat.busy }
        faultBits := { s.faultBits with illegalOp := true, overlap := s.faultBits.overlap || s.stat.busy } }) ∧
    (v.toNat < 16 → 1 ≤ v.toNat % 16 → v.toNat % 16 ≤ 6 → s.stat.busy = true →
      step s = .next { s with
        inputs := rest
        err := { s.err with overlap := true }
        faultBits := { s.faultBits with overlap := true } }) ∧
    (s.stat.busy = false →
      (v = 0x01 → step s = exec .encodeOp { s with inputs := rest }) ∧
      (v = 0x02 → step s = exec .checksumOp { s with inputs := rest }) ∧
      (v = 0x03 → step s = exec .decodeOp { s with inputs := rest }) ∧
      (v = 0x04 → step s = exec .exchangeOp { s with inputs := rest }) ∧
      (v = 0x05 → step s = exec .readPkgOp { s with inputs := rest }) ∧
      (v = 0x06 → step s = exec .checkTypeOp { s with inputs := rest }))

/-! ### The wire formats (log entry 3: the line's transfer of one unit) -/

/-- R65, R71, R94: an acknowledgment frame enters RXQ in offset order; what does not fit is dropped and recorded. -/
def Obligations.AckFrameEntersRxq : Prop :=
  ∀ (s : State) (t q1 q2 st r k z : Byte),
    exec (.ackFrame t q1 q2 st r k z) s = .next { s with
      rxq := s.rxq ++ [0xF5, t, q1, q2, st, r, k, z].take (s.cfg.rxDepth - s.rxq.length)
      err := { s.err with rxOverrun := s.err.rxOverrun || decide (s.cfg.rxDepth < s.rxq.length + 8) }
      faultBits := { s.faultBits with
        rxOverrun := s.faultBits.rxOverrun || decide (s.cfg.rxDepth < s.rxq.length + 8) } }

/-- R71, R99: a data package enters RXQ between its two markers; what does not fit is dropped and recorded. -/
def Obligations.DataPackageEntersRxq : Prop :=
  ∀ (s : State) (chars : List Byte),
    exec (.dataPackage chars) s = .next { s with
      rxq := s.rxq ++ (0xF5 :: (chars ++ [0xF5])).take (s.cfg.rxDepth - s.rxq.length)
      err := { s.err with
        rxOverrun := s.err.rxOverrun || decide (s.cfg.rxDepth < s.rxq.length + (chars.length + 2)) }
      faultBits := { s.faultBits with
        rxOverrun := s.faultBits.rxOverrun || decide (s.cfg.rxDepth < s.rxq.length + (chars.length + 2)) } }

/-- R73, R93, R95: a command frame that stands at TXQ's head leaves it, and nothing else changes. -/
def Obligations.CommandFrameLeavesTxq : Prop :=
  (∀ (s : State) (o p1 p2 p3 : Byte) (rest : List Byte),
    s.txq = [0xF5, o, p1, p2, p3, 0x00, o ^^^ p1 ^^^ p2 ^^^ p3, 0xF5] ++ rest →
    exec (.cmdFrame o p1 p2 p3) s = .next { s with txq := rest }) ∧
  (∀ (s : State) (rest : List Byte),
    s.txq = [0xF5, 0x09, 0x00, 0x00, 0x00, 0x00, 0x09, 0xF5] ++ rest →
    exec .wireCmdGetUserCount s = .next { s with txq := rest })

/-- The model's stop (log entry 3): a command frame that TXQ does not hold at its head cannot leave, for R73's LineDrain takes
TXQ[0] only. -/
def Obligations.UnqueuedCommandFrameStops : Prop :=
  (∀ (s : State) (o p1 p2 p3 : Byte),
    s.txq.take 8 ≠ [0xF5, o, p1, p2, p3, 0x00, o ^^^ p1 ^^^ p2 ^^^ p3, 0xF5] →
    exec (.cmdFrame o p1 p2 p3) s = .fault .frameNotQueued) ∧
  (∀ s : State, s.txq.take 8 ≠ [0xF5, 0x09, 0x00, 0x00, 0x00, 0x00, 0x09, 0xF5] →
    exec .wireCmdGetUserCount s = .fault .frameNotQueued)

/-! ### The LINE's and the HOST's steps (20_memory.md) -/

/-- R71: LinePush. The model's record of the overrun is log entry 5. -/
def Obligations.LinePushAppendsOrDropsTheNewest : Prop :=
  ∀ (s : State) (b : Byte) (rest : List Input), s.inputs = .linePush b :: rest →
    (s.rxq.length < s.cfg.rxDepth → step s = .next { s with inputs := rest, rxq := s.rxq ++ [b] }) ∧
    (s.cfg.rxDepth ≤ s.rxq.length → step s = .next { s with
      inputs := rest
      err := { s.err with rxOverrun := true }
      faultBits := { s.faultBits with rxOverrun := true } })

/-- R73, R230: the strobe tx_ready takes TXQ's oldest byte; with TXQ empty no byte is transferred (log entry 11). The
model's own input of one frame's worth of strobes (log entry 3) takes up to eight bytes. -/
def Obligations.LineDrainTakesTheOldest : Prop :=
  (∀ (s : State) (rest : List Input), s.inputs = .txReady :: rest →
    (∀ (b : Byte) (q : List Byte), s.txq = b :: q → step s = .next { s with inputs := rest, txq := q }) ∧
    (s.txq = [] → step s = .next { s with inputs := rest })) ∧
  (∀ (s : State) (rest : List Input), s.inputs = .txFrame :: rest →
    step s = .next { s with inputs := rest, txq := s.txq.drop 8 })

/-- R61: HostRead puts the register's value on the port and changes nothing of the block; the model records a read that the spec
gives no meaning (log entries 6, 7, 9). -/
def Obligations.HostReadHasNoSideEffect : Prop :=
  ∀ (s : State) (i : RegIndex) (rest : List Input), s.inputs = .hostRead i :: rest →
    ∃ raw stale : Bool, step s = .next { s with
      inputs := rest
      hostRdata := hostReg s i
      faultBits := { s.faultBits with
        pkgRawRead := s.faultBits.pkgRawRead || raw
        staleRead := s.faultBits.staleRead || stale } } ∧
      (raw = true ↔ 0x200 ≤ i.toNat ∧ i.toNat < 0x200 + s.cfg.pkgMaxChars / 2 ∧
        (s.fsm = fsmPkgSync ∨ s.fsm = fsmPkgRead ∨ s.pkgRaw (i.toNat - 0x200) = none)) ∧
      (stale = true ↔ (s.stat.busy = true ∧ isResultIndex s i = true) ∨
        (s.stat.respValid = false ∧ 0x009 ≤ i.toNat ∧ i.toNat ≤ 0x00B))

/-- R22, R38: what each index of the register map reads as, in a block with at most 255 package characters. While READ_PKG is in
progress the package registers read as its acceptance left them, 0x00 (log entry 16). -/
def Obligations.RegisterMapReads : Prop :=
  ∀ s : State, s.cfg.pkgMaxChars ≤ 255 →
    hostReg s 0x000 = 0x00 ∧ hostReg s 0x001 = s.stat.toByte ∧ hostReg s 0x002 = s.err.toByte ∧
    hostReg s 0x003 = s.fsm.setWidth 8 ∧ hostReg s 0x004 = s.cmdOpcode ∧ hostReg s 0x005 = s.cmdP1 ∧
    hostReg s 0x006 = s.cmdP2 ∧ hostReg s 0x007 = s.cmdP3 ∧ hostReg s 0x008 = s.sentOpcode ∧
    hostReg s 0x009 = s.resType ∧ hostReg s 0x00A = s.resQ1 ∧ hostReg s 0x00B = s.resQ2 ∧
    hostReg s 0x00C = s.resStatus ∧ hostReg s 0x00D = s.cmdStatus ∧ hostReg s 0x00E = s.cksum ∧
    hostReg s 0x00F = (if s.fsm = fsmPkgSync ∨ s.fsm = fsmPkgRead then 0x00 else s.pkgLen) ∧ hostReg s 0x010 = s.lastOp ∧
    (∀ i : RegIndex, 0x018 ≤ i.toNat → i.toNat ≤ 0x01F → hostReg s i = s.txf.toList.getD (i.toNat - 0x018) 0) ∧
    (∀ i : RegIndex, 0x020 ≤ i.toNat → i.toNat ≤ 0x027 → hostReg s i = s.rxf.toList.getD (i.toNat - 0x020) 0) ∧
    (∀ i : RegIndex, 0x028 ≤ i.toNat → i.toNat ≤ 0x02F → hostReg s i = s.frameIn.toList.getD (i.toNat - 0x028) 0) ∧
    (∀ i : RegIndex, 0x100 ≤ i.toNat → i.toNat < 0x100 + s.cfg.pkgMaxChars →
      hostReg s i =
        if s.fsm ≠ fsmPkgSync ∧ s.fsm ≠ fsmPkgRead ∧ i.toNat - 0x100 < s.pkgLen.toNat then
          s.pkgBuf.getD (i.toNat - 0x100) 0
        else 0x00) ∧
    (∀ i : RegIndex, 0x200 ≤ i.toNat → i.toNat < 0x200 + s.cfg.pkgMaxChars / 2 →
      hostReg s i =
        if s.fsm = fsmPkgSync ∨ s.fsm = fsmPkgRead then 0x00 else (s.pkgRaw (i.toNat - 0x200)).getD 0x00)

/-- R62: an unmapped index reads 0x00, and a write to an unmapped or read-only index has no effect. -/
def Obligations.UnmappedReadsZeroAndReadOnlyWritesAreIgnored : Prop :=
  (∀ (s : State) (i : RegIndex), mappedIndex s.cfg i = false → hostReg s i = 0x00) ∧
  (∀ (s : State) (i : RegIndex) (v : Byte) (rest : List Input), writableIndex i = false →
    s.inputs = .hostWrite i v :: rest → step s = .next { s with inputs := rest })

/-- R63: a write to CMD_OPCODE, CMD_P1, CMD_P2, CMD_P3 or FRAME_IN[k] stores v there, every other index reads as before, and
nothing else changes. -/
def Obligations.OperandWriteStoresAndNothingElse : Prop :=
  ∀ (s : State) (i : RegIndex) (v : Byte) (rest : List Input), s.inputs = .hostWrite i v :: rest →
    ((0x004 ≤ i.toNat ∧ i.toNat ≤ 0x007) ∨ (0x028 ≤ i.toNat ∧ i.toNat ≤ 0x02F)) →
    ∃ t, step s = .next t ∧ hostReg t i = v ∧ (∀ j : RegIndex, j ≠ i → hostReg t j = hostReg s j) ∧
      t = { s with
        inputs := rest
        cmdOpcode := t.cmdOpcode, cmdP1 := t.cmdP1, cmdP2 := t.cmdP2, cmdP3 := t.cmdP3, frameIn := t.frameIn }

/-- R64: ERR is write-1-to-clear, and its reserved bits stay 0. -/
def Obligations.ErrIsWriteOneToClear : Prop :=
  ∀ (s : State) (v : Byte) (rest : List Input), s.inputs = .hostWrite 0x002 v :: rest →
    ∃ t, step s = .next t ∧ hostReg t 0x002 = hostReg s 0x002 &&& ~~~v ∧ 8 > (hostReg t 0x002).toNat ∧
      t = { s with inputs := rest, err := t.err }

/-- R23, R24: the bits of STAT and ERR. -/
def Obligations.StatusAndErrorBits : Prop :=
  ∀ s : State,
    (hostReg s 0x001).getLsbD 0 = s.stat.busy ∧ (hostReg s 0x001).getLsbD 1 = s.stat.done ∧
    (hostReg s 0x001).getLsbD 2 = s.stat.respValid ∧ (hostReg s 0x001).getLsbD 3 = s.stat.isLocal ∧
    (hostReg s 0x001).getLsbD 4 = s.stat.cksumOk ∧ (hostReg s 0x001).getLsbD 5 = s.stat.typeMatch ∧
    (hostReg s 0x001).getLsbD 6 = s.stat.pkgHexOk ∧ (hostReg s 0x001).getLsbD 7 = false ∧
    (hostReg s 0x002).getLsbD 0 = s.err.illegalOp ∧ (hostReg s 0x002).getLsbD 1 = s.err.overlap ∧
    (hostReg s 0x002).getLsbD 2 = s.err.rxOverrun ∧ (∀ k, 3 ≤ k → (hostReg s 0x002).getLsbD k = false)

/-! ### The controller's ticks (10 R39, 41, 42) -/

/-- R39: an IDLE tick changes nothing; only an accepted EXCHANGE or READ_PKG leaves IDLE; only Finish or reset returns to it. -/
def Obligations.IdleIsLeftAndEnteredOnlyAsStated : Prop :=
  (∀ (s : State) (rest : List Input), s.fsm = fsmIdle → s.inputs = .tick :: rest →
    step s = .next { s with inputs := rest }) ∧
  (∀ s t : State, step s = .next t → s.fsm = fsmIdle → t.fsm ≠ fsmIdle →
    (∃ rest, s.inputs = .hostWrite 0x000 0x04 :: rest ∧ t.fsm = fsmTxWait) ∨
    (∃ rest, s.inputs = .hostWrite 0x000 0x05 :: rest ∧ t.fsm = fsmPkgSync)) ∧
  (∀ s t : State, step s = .next t → s.fsm ≠ fsmIdle → t.fsm = fsmIdle →
    (∃ rest, s.inputs = .rst :: rest) ∨ (t.stat.done = true ∧ t.stat.busy = false))

/-- R142: a TX_WAIT tick. -/
def Obligations.TxWaitTickLoadsTheBudget : Prop :=
  ∀ (s : State) (rest : List Input), s.fsm = fsmTxWait → s.inputs = .tick :: rest →
    (s.txq = [] → step s = .next { s with inputs := rest, outerCnt := s.cfg.budgetTicks, fsm := fsmWait }) ∧
    (s.txq ≠ [] → step s = .next { s with inputs := rest })

/-- R143: a WAIT tick whose budget is not exhausted. -/
def Obligations.WaitTickCountsAndChecks : Prop :=
  ∀ (s : State) (rest : List Input), s.fsm = fsmWait → s.inputs = .tick :: rest → s.outerCnt ≠ 0 →
    (8 ≤ s.rxq.length → step s = .next { s with
      inputs := rest, outerCnt := s.outerCnt - 1, resyncCnt := s.cfg.budgetTicks, fsm := fsmResync }) ∧
    (s.rxq.length < 8 → step s = .next { s with inputs := rest, outerCnt := s.outerCnt - 1 })

/-- R144: a RESYNC tick whose sub-budget is not exhausted and that reads no frame. -/
def Obligations.ResyncTickDiscardsOrGoesBack : Prop :=
  ∀ (s : State) (rest : List Input), s.fsm = fsmResync → s.inputs = .tick :: rest → s.resyncCnt ≠ 0 →
    (s.rxq = [] → step s = .next { s with inputs := rest, resyncCnt := s.resyncCnt - 1 }) ∧
    (∀ (b : Byte) (q : List Byte), s.rxq = b :: q → b ≠ 0xF5 →
      step s = .next { s with inputs := rest, resyncCnt := s.resyncCnt - 1, rxq := q }) ∧
    (∀ q : List Byte, s.rxq = 0xF5 :: q → q.length < 7 →
      step s = .next { s with inputs := rest, resyncCnt := s.resyncCnt - 1, fsm := fsmWait })

/-- R145, R146: a RESYNC tick that reads a valid ack. RXQ keeps what follows the eight bytes. -/
def Obligations.ExchangeSucceedsWithoutFlush : Prop :=
  ∀ (s : State) (rest : List Input) (t q1 q2 st r k z : Byte) (q : List Byte),
    s.fsm = fsmResync → s.inputs = .tick :: rest → s.resyncCnt ≠ 0 →
    s.rxq = [0xF5, t, q1, q2, st, r, k, z] ++ q → t ^^^ q1 ^^^ q2 ^^^ st ^^^ r = k →
    step s = .next { s with
      inputs := rest
      resyncCnt := s.resyncCnt - 1
      rxq := q
      rxf := ⟨0xF5, t, q1, q2, st, r, k, z⟩
      resType := t, resQ1 := q1, resQ2 := q2, resStatus := st
      cmdStatus := if t = s.sentOpcode then st else 0x01
      stat := { s.stat with
        respValid := true, cksumOk := true, typeMatch := decide (t = s.sentOpcode)
        isLocal := false, busy := false, done := true }
      fsm := fsmIdle }

/-- R145, R147: a RESYNC tick that reads a frame whose checksum does not match. -/
def Obligations.ExchangeFailsOnChecksumAndFlushes : Prop :=
  ∀ (s : State) (rest : List Input) (t q1 q2 st r k z : Byte) (q : List Byte),
    s.fsm = fsmResync → s.inputs = .tick :: rest → s.resyncCnt ≠ 0 →
    s.rxq = [0xF5, t, q1, q2, st, r, k, z] ++ q → t ^^^ q1 ^^^ q2 ^^^ st ^^^ r ≠ k →
    step s = .next { s with
      inputs := rest
      resyncCnt := s.resyncCnt - 1
      rxq := []
      rxf := ⟨0xF5, t, q1, q2, st, r, k, z⟩
      resStatus := 0x01
      cmdStatus := 0x01
      stat := { s.stat with
        respValid := false, cksumOk := false, typeMatch := false, isLocal := true, busy := false, done := true }
      fsm := fsmIdle }

/-- R148: an exhausted budget in WAIT or RESYNC. RES_TYPE, RES_Q1, RES_Q2 and RXF are unchanged. -/
def Obligations.ExchangeTimesOutAndFlushes : Prop :=
  ∀ (s : State) (rest : List Input), s.inputs = .tick :: rest →
    ((s.fsm = fsmWait ∧ s.outerCnt = 0) ∨ (s.fsm = fsmResync ∧ s.resyncCnt = 0)) →
    step s = .next { s with
      inputs := rest
      rxq := []
      resStatus := 0x13
      cmdStatus := 0x13
      stat := { s.stat with
        respValid := false, cksumOk := false, typeMatch := false, isLocal := true, busy := false, done := true }
      fsm := fsmIdle }

/-- R182: a PKG_SYNC tick whose budget is not exhausted. -/
def Obligations.PkgSyncTickConsumesOneByte : Prop :=
  ∀ (s : State) (rest : List Input), s.fsm = fsmPkgSync → s.inputs = .tick :: rest → s.outerCnt ≠ 0 →
    (s.rxq = [] → step s = .next { s with inputs := rest, outerCnt := s.outerCnt - 1 }) ∧
    (∀ (b : Byte) (q : List Byte), s.rxq = b :: q →
      step s = .next { s with
        inputs := rest, outerCnt := s.outerCnt - 1, rxq := q, fsm := if b = 0xF5 then fsmPkgRead else fsmPkgSync })

/-- R183: a PKG_READ tick whose budget is not exhausted and that completes nothing: no byte, an empty payload, or one more
character at index PKG_LEN. -/
def Obligations.PkgReadTickAccumulates : Prop :=
  ∀ (s : State) (rest : List Input), s.fsm = fsmPkgRead → s.inputs = .tick :: rest → s.outerCnt ≠ 0 →
    (s.rxq = [] → step s = .next { s with inputs := rest, outerCnt := s.outerCnt - 1 }) ∧
    (∀ q : List Byte, s.rxq = 0xF5 :: q → s.pkgLen = 0 →
      step s = .next { s with inputs := rest, outerCnt := s.outerCnt - 1 }) ∧
    (∀ (c : Byte) (q : List Byte), s.rxq = c :: q → c ≠ 0xF5 → s.pkgLen.toNat ≠ s.cfg.pkgMaxChars →
      ∃ buf, step s = .next { s with
          inputs := rest, outerCnt := s.outerCnt - 1, rxq := q, pkgBuf := buf, pkgLen := s.pkgLen + 1 } ∧
        (∀ k, buf.getD k 0x00 = if k = s.pkgLen.toNat then c else s.pkgBuf.getD k 0x00))

/-- R184: a peeked marker ends a non-empty package; it stays in RXQ. -/
def Obligations.PkgSucceedsAtTheTrailingMarker : Prop :=
  ∀ (s : State) (rest : List Input) (q : List Byte), s.fsm = fsmPkgRead → s.inputs = .tick :: rest →
    s.outerCnt ≠ 0 → s.rxq = 0xF5 :: q → s.pkgLen ≠ 0 →
    ∃ hex : Bool, step s = .next { s with
        inputs := rest
        outerCnt := s.outerCnt - 1
        resStatus := 0x00
        cmdStatus := 0x00
        stat := { s.stat with
          pkgHexOk := hex, respValid := false, typeMatch := false, isLocal := true, busy := false, done := true }
        fsm := fsmIdle } ∧
      (hex = true ↔ s.pkgLen.toNat % 2 = 0 ∧ ∀ k, k < s.pkgLen.toNat →
        (0x30 ≤ (s.pkgBuf.getD k 0x00).toNat ∧ (s.pkgBuf.getD k 0x00).toNat ≤ 0x39) ∨
        (0x41 ≤ (s.pkgBuf.getD k 0x00).toNat ∧ (s.pkgBuf.getD k 0x00).toNat ≤ 0x46))

/-- R185, R186: a package read that fails flushes RXQ and clears the package: SERIAL_TIMEOUT on an exhausted budget, FAIL when a
character arrives with the buffer full. -/
def Obligations.PkgFailureFlushesAndClears : Prop :=
  (∀ (s : State) (rest : List Input), (s.fsm = fsmPkgSync ∨ s.fsm = fsmPkgRead) → s.inputs = .tick :: rest →
    s.outerCnt = 0 →
    step s = .next { s with
      inputs := rest
      rxq := []
      pkgLen := 0
      pkgBuf := []
      resStatus := 0x13
      cmdStatus := 0x13
      stat := { s.stat with
        pkgHexOk := false, respValid := false, typeMatch := false, isLocal := true, busy := false, done := true }
      fsm := fsmIdle }) ∧
  (∀ (s : State) (rest : List Input) (c : Byte) (q : List Byte), s.fsm = fsmPkgRead → s.inputs = .tick :: rest →
    s.outerCnt ≠ 0 → s.rxq = c :: q → c ≠ 0xF5 → s.pkgLen.toNat = s.cfg.pkgMaxChars →
    step s = .next { s with
      inputs := rest
      outerCnt := s.outerCnt - 1
      rxq := []
      pkgLen := 0
      pkgBuf := []
      resStatus := 0x01
      cmdStatus := 0x01
      stat := { s.stat with
        pkgHexOk := false, respValid := false, typeMatch := false, isLocal := true, busy := false, done := true }
      fsm := fsmIdle })

/-! ### Reset (10 R40, 70 R250) -/

/-- R40: every element of the block's state after reset. -/
def Obligations.ResetValues : Prop :=
  (∀ i : RegIndex, hostReg State.reset i = 0x00) ∧
  State.reset.outerCnt = 0 ∧ State.reset.resyncCnt = 0 ∧ State.reset.rxq = [] ∧ State.reset.txq = [] ∧
  State.reset.pkgBuf = [] ∧ State.reset.stat.toByte = 0x00 ∧ State.reset.err.toByte = 0x00 ∧ State.reset.fsm = 0

/-- R250: the reset input gives every element of the block its reset value, whatever operation runs. What is the model's own
(parameters, coming inputs, the port's last value, the fault record) stays: log entry 10. -/
def Obligations.ResetInputRestoresEveryElement : Prop :=
  ∀ (s : State) (rest : List Input), s.inputs = .rst :: rest →
    step s = .next { State.reset with
      cfg := s.cfg, inputs := rest, hostRdata := s.hostRdata, faultBits := s.faultBits }

/-! ### Invariants and whole-machine rules -/

/-- The reset state meets both invariants. -/
def Obligations.ResetMeetsTheInvariants : Prop := State.reset.Inv ∧ State.reset.ResultInv

/-- From every state that meets it, every step keeps the invariant of phases, counters, queues and package (R5, R21, R23, R27,
R33 to R37). -/
def Obligations.EveryStepKeepsInv : Prop :=
  ∀ s t : State, s.Inv → step s = .next t → t.Inv

/-- From every state that meets it, every step keeps the invariant of the result registers (R204). -/
def Obligations.EveryStepKeepsResultInv : Prop :=
  ∀ s t : State, s.ResultInv → step s = .next t → t.ResultInv

/-- R220: no error leaves the block where the next step cannot be taken: from every state that meets the invariant a step answers
a next state, never a fault or a refusal. -/
def Obligations.NoStepStopsUnderTheInvariant : Prop :=
  ∀ s : State, s.Inv → ∃ t, step s = .next t

/-- R34, R72: in any state whatever, a step that stops has the FSM-code fault, and FSM is 6 or 7: no primitive is ever used without
its guard, no frame is ever missing from TXQ, nothing is refused. A tick in codes 6 and 7 does stop. That it is the tick which
stops there, and no other step, is log entry 8. -/
def Obligations.OnlyAnIllegalPhaseStops : Prop :=
  (∀ s : State, (∀ r, step s = .fault r → r = .fsmCode ∧ 6 ≤ s.fsm.toNat) ∧ (∀ r, step s ≠ .refused r)) ∧
  (∀ (s : State) (rest : List Input), s.inputs = .tick :: rest → 6 ≤ s.fsm.toNat → step s = .fault .fsmCode)

/-- A step runs the instruction it decodes: a write to CTRL at that port, TXQ's own bytes when the line takes a frame, and the
bytes the line delivers; what step adds is the consumed input. That a transfer of the LINE is an instruction (clauses 2 to 4) is
the model's choice, log entry 3. -/
def Obligations.StepRunsTheDecodedInstruction : Prop :=
  (∀ (s : State) (v : Byte) (i : Instr) (rest : List Input) (bs : List Byte),
    s.inputs = .hostWrite 0x000 v :: rest → decode .ctrl [v] = .ok (i, bs) →
    step s = exec i { s with inputs := rest }) ∧
  (∀ (s : State) (i : Instr) (rest : List Input) (bs : List Byte),
    s.inputs = .txFrame :: rest → decode .tx s.txq = .ok (i, bs) → step s = exec i { s with inputs := rest }) ∧
  (∀ (s : State) (i : Instr) (rest : List Input) (bs : List Byte),
    s.inputs = .rxFrame bs :: rest → decode .rxFrame bs = .ok (i, []) → step s = exec i { s with inputs := rest }) ∧
  (∀ (s : State) (i : Instr) (rest : List Input) (bs : List Byte),
    s.inputs = .rxPackage bs :: rest → decode .rxPackage bs = .ok (i, []) →
    step s = exec i { s with inputs := rest })

/-- R10, R102 and the model's schedule (log entries 1, 14): with no input left, and while the host waits for DONE, the next step is a
CTL tick; a tick input is that same tick. -/
def Obligations.StepsOfTheSchedule : Prop :=
  (∀ s : State, s.inputs = [] → step s = ctlTick s) ∧
  (∀ (s : State) (rest : List Input), s.inputs = .tick :: rest → step s = ctlTick { s with inputs := rest }) ∧
  (∀ (s : State) (rest : List Input), s.inputs = .waitDone :: rest →
    step s = if s.stat.done = true then .next { s with inputs := rest } else ctlTick s)

/-- R24, R221: an ERR bit, once set, stays set until the host writes 1 to it or until reset; the model's record of it is never
cleared, and no step changes the block's parameters. -/
def Obligations.ErrorBitsAreSticky : Prop :=
  ∀ s t : State, step s = .next t →
    (s.err.illegalOp = true → t.err.illegalOp = true ∨ (∃ rest, s.inputs = .rst :: rest) ∨
      ∃ v rest, s.inputs = .hostWrite 0x002 v :: rest ∧ v.getLsbD 0 = true) ∧
    (s.err.overlap = true → t.err.overlap = true ∨ (∃ rest, s.inputs = .rst :: rest) ∨
      ∃ v rest, s.inputs = .hostWrite 0x002 v :: rest ∧ v.getLsbD 1 = true) ∧
    (s.err.rxOverrun = true → t.err.rxOverrun = true ∨ (∃ rest, s.inputs = .rst :: rest) ∨
      ∃ v rest, s.inputs = .hostWrite 0x002 v :: rest ∧ v.getLsbD 2 = true) ∧
    (s.faultBits.illegalOp = true → t.faultBits.illegalOp = true) ∧
    (s.faultBits.overlap = true → t.faultBits.overlap = true) ∧
    (s.faultBits.rxOverrun = true → t.faultBits.rxOverrun = true) ∧
    (s.faultBits.pkgRawRead = true → t.faultBits.pkgRawRead = true) ∧
    (s.faultBits.staleRead = true → t.faultBits.staleRead = true) ∧
    t.cfg = s.cfg

/-- R260: no step but reset leaves TX_WAIT while TXQ holds a byte. -/
def Obligations.TxWaitHoldsUntilDrained : Prop :=
  ∀ s t : State, s.stat.busy = true → s.fsm = fsmTxWait → s.txq ≠ [] → step s = .next t →
    t.fsm = fsmTxWait ∨ ∃ rest, s.inputs = .rst :: rest

/-- R38, R74, R253: while an operation goes on, what the host reads of STAT and of every result register (RES_*, CMD_STATUS, RXF,
PKG_LEN, PKG_BUF, PKG_RAW) stays as it is, and so do the other registers an operation writes. (What R183's ticks accumulate is
not seen by the host before the completing tick: log entry 16.) -/
def Obligations.ResultsWaitForCompletion : Prop :=
  ∀ s t : State, s.stat.busy = true → step s = .next t → t.stat.busy = true →
    (∀ i : RegIndex, i = 0x001 ∨ isResultIndex s i = true → hostReg t i = hostReg s i) ∧
    t.resType = s.resType ∧ t.resQ1 = s.resQ1 ∧ t.resQ2 = s.resQ2 ∧ t.resStatus = s.resStatus ∧
    t.cmdStatus = s.cmdStatus ∧ t.rxf = s.rxf ∧ t.txf = s.txf ∧ t.sentOpcode = s.sentOpcode ∧
    t.lastOp = s.lastOp ∧ t.cksum = s.cksum ∧ t.stat = s.stat

/-- R26, R28, R30, R32: who writes SENT_OPCODE, RXF, RES_TYPE/Q1/Q2 and CKSUM. Reset apart: SENT_OPCODE only an accepted
EXCHANGE; RES_TYPE, RES_Q1, RES_Q2 only a step that leaves a checksum-valid response; RXF only a RESYNC step; CKSUM only
CHECKSUM. -/
def Obligations.WritersOfTheResultRegisters : Prop :=
  ∀ s t : State, step s = .next t → (¬ ∃ rest, s.inputs = .rst :: rest) →
    (t.sentOpcode ≠ s.sentOpcode →
      (∃ rest, s.inputs = .hostWrite 0x000 0x04 :: rest) ∧ s.stat.busy = false ∧ t.sentOpcode = s.cmdOpcode) ∧
    ((t.resType ≠ s.resType ∨ t.resQ1 ≠ s.resQ1 ∨ t.resQ2 ≠ s.resQ2) →
      t.stat.respValid = true ∧ t.stat.cksumOk = true ∧ t.stat.isLocal = false ∧ t.stat.done = true ∧
      (s.fsm = fsmResync ∨ ∃ rest, s.inputs = .hostWrite 0x000 0x03 :: rest)) ∧
    (t.rxf ≠ s.rxf → s.fsm = fsmResync ∧ t.fsm = fsmIdle) ∧
    (t.cksum ≠ s.cksum → (∃ rest, s.inputs = .hostWrite 0x000 0x02 :: rest) ∧ s.stat.busy = false)

/-! ### Whole operations -/

/-- R150: an exchange that has left TX_WAIT, in WAIT or in RESYNC, completes within (BUDGET_TICKS + 1)^2 CTL ticks, whatever the LINE and the HOST do
in between (short of a reset). -/
def Obligations.ExchangeEndsWithinTheSquaredBudget : Prop :=
  ∀ s : State, s.Inv → (s.fsm = fsmWait ∨ s.fsm = fsmResync) → (∀ e ∈ s.inputs, e.isPlain = true) →
    (s.cfg.budgetTicks + 1) ^ 2 ≤ tickCount s.inputs →
    ∃ k t, k ≤ s.inputs.length ∧ run k s = .next t ∧ t.fsm = fsmIdle ∧ t.stat.done = true ∧ t.stat.busy = false

/-- R261: a package read completes within BUDGET_TICKS + 1 ticks, whatever the LINE and the HOST do in between (short of a
reset). -/
def Obligations.ReadPkgEndsWithinTheBudget : Prop :=
  ∀ s : State, s.Inv → (s.fsm = fsmPkgSync ∨ s.fsm = fsmPkgRead) → (∀ e ∈ s.inputs, e.isPlain = true) →
    s.cfg.budgetTicks + 1 ≤ tickCount s.inputs →
    ∃ k t, k ≤ s.inputs.length ∧ run k s = .next t ∧ t.fsm = fsmIdle ∧ t.stat.done = true ∧ t.stat.busy = false

/-- R152 case 1: with fewer than eight bytes, an exchange that waits times out on the tick after its last check, RXQ empty, RXF
and RES_TYPE, RES_Q1, RES_Q2 unchanged. With no inputs left the steps are CTL ticks (log entry 1). -/
def Obligations.FewerThanEightBytesTimeOut : Prop :=
  ∀ s : State, s.fsm = fsmWait → s.inputs = [] → s.rxq.length < 8 →
    run (s.outerCnt + 1) s = .next { s with
      outerCnt := 0
      rxq := []
      resStatus := 0x13, cmdStatus := 0x13
      stat := { s.stat with
        respValid := false, cksumOk := false, typeMatch := false, isLocal := true, busy := false, done := true }
      fsm := fsmIdle }

/-- R150, R153: the fastest exchange. With the command drained and RXQ empty, an ack that the line delivers is read after three
ticks: a valid one is decoded and compared with SENT_OPCODE, an invalid one is FAIL. The delivery in one step is log entry 3. -/
def Obligations.AckIsReadInThreeTicks : Prop :=
  ∀ (s : State) (t q1 q2 st r k z : Byte) (rest : List Input),
    s.cfg.Valid → s.fsm = fsmTxWait → s.txq = [] → s.rxq = [] →
    s.inputs = .rxFrame [0xF5, t, q1, q2, st, r, k, z] :: .tick :: .tick :: .tick :: rest →
    (t ^^^ q1 ^^^ q2 ^^^ st ^^^ r = k → run 4 s = .next { s with
      inputs := rest
      outerCnt := s.cfg.budgetTicks - 1, resyncCnt := s.cfg.budgetTicks - 1
      rxf := ⟨0xF5, t, q1, q2, st, r, k, z⟩
      resType := t, resQ1 := q1, resQ2 := q2, resStatus := st
      cmdStatus := if t = s.sentOpcode then st else 0x01
      stat := { s.stat with
        respValid := true, cksumOk := true, typeMatch := decide (t = s.sentOpcode)
        isLocal := false, busy := false, done := true }
      fsm := fsmIdle }) ∧
    (t ^^^ q1 ^^^ q2 ^^^ st ^^^ r ≠ k → run 4 s = .next { s with
      inputs := rest
      outerCnt := s.cfg.budgetTicks - 1, resyncCnt := s.cfg.budgetTicks - 1
      rxf := ⟨0xF5, t, q1, q2, st, r, k, z⟩
      resStatus := 0x01, cmdStatus := 0x01
      stat := { s.stat with
        respValid := false, cksumOk := false, typeMatch := false, isLocal := true, busy := false, done := true }
      fsm := fsmIdle })

/-- R152 case 3, R151: garbage without the marker, shorter than the budget, costs one tick a byte; the valid frame behind it is
read and what follows it stays in RXQ. With no inputs left the steps are CTL ticks (log entry 1). -/
def Obligations.GarbageIsSkippedToTheFrame : Prop :=
  ∀ (s : State) (g q : List Byte) (t q1 q2 st r k z : Byte),
    s.fsm = fsmWait → s.inputs = [] → s.outerCnt ≠ 0 → (0xF5 : Byte) ∉ g → g.length < s.cfg.budgetTicks →
    s.rxq = g ++ [0xF5, t, q1, q2, st, r, k, z] ++ q → t ^^^ q1 ^^^ q2 ^^^ st ^^^ r = k →
    run (g.length + 2) s = .next { s with
      outerCnt := s.outerCnt - 1, resyncCnt := s.cfg.budgetTicks - (g.length + 1)
      rxq := q
      rxf := ⟨0xF5, t, q1, q2, st, r, k, z⟩
      resType := t, resQ1 := q1, resQ2 := q2, resStatus := st
      cmdStatus := if t = s.sentOpcode then st else 0x01
      stat := { s.stat with
        respValid := true, cksumOk := true, typeMatch := decide (t = s.sentOpcode)
        isLocal := false, busy := false, done := true }
      fsm := fsmIdle }

/-- R187 cases 1, 3 and 4: with all bytes in RXQ and enough budget, a package is read in one tick a byte plus one for the peeked
trailing marker, which stays in RXQ with everything after it. With no inputs left the steps are CTL ticks (log entry 1). -/
def Obligations.PackageIsReadFromTheStream : Prop :=
  ∀ (s : State) (g chars q : List Byte),
    s.cfg.Valid → s.fsm = fsmPkgSync → s.inputs = [] → s.pkgLen = 0 → s.pkgBuf = [] →
    (0xF5 : Byte) ∉ g → (0xF5 : Byte) ∉ chars → chars ≠ [] → chars.length ≤ s.cfg.pkgMaxChars →
    g.length + chars.length + 2 ≤ s.outerCnt →
    s.rxq = g ++ 0xF5 :: (chars ++ 0xF5 :: q) →
    run (g.length + chars.length + 2) s = .next { s with
      outerCnt := s.outerCnt - (g.length + chars.length + 2)
      rxq := 0xF5 :: q
      pkgBuf := chars
      pkgLen := BitVec.ofNat 8 chars.length
      resStatus := 0x00, cmdStatus := 0x00
      stat := { s.stat with
        pkgHexOk := chars.length % 2 == 0 && chars.all isHexChar
        respValid := false, typeMatch := false, isLocal := true, busy := false, done := true }
      fsm := fsmIdle }

/-- R33, R67, R188: raw bytes sent as hex digit pairs, high nibble first, are uppercase hex characters, and PKG_RAW gives the raw
bytes back. -/
def Obligations.PkgRawGivesTheRawBytes : Prop :=
  ∀ (s : State) (raw : List Byte), raw ≠ [] → 2 * raw.length ≤ 255 → s.pkgBuf = hexEncode raw →
    s.pkgLen = BitVec.ofNat 8 (2 * raw.length) →
    s.pkgIsHex = true ∧
    (s.stat.pkgHexOk = true → ∀ j (h : j < raw.length), s.pkgRaw j = some raw[j]) ∧
    (∀ j, raw.length ≤ j → s.pkgRaw j = none)

/-- R66, R101, R202, R205: the 16-bit view is q1 * 256 + q2, and the status bytes' enumeration. -/
def Obligations.ResultViews : Prop :=
  (∀ q1 q2 : Byte, (u16 q1 q2).toNat = q1.toNat * 256 + q2.toNat) ∧
  statusOf 0x00 = .success ∧ statusOf 0x01 = .fail ∧ statusOf 0x04 = .dbFull ∧ statusOf 0x05 = .noUser ∧
  statusOf 0x07 = .userExists ∧ statusOf 0x08 = .imageTimeout ∧ statusOf 0x0A = .hwError ∧
  statusOf 0x10 = .imageError ∧ statusOf 0x11 = .spoof ∧ statusOf 0x12 = .homologyFail ∧
  statusOf 0x13 = .serialTimeout ∧ statusOf 0x14 = .idle ∧ statusOf 0x18 = .aborted ∧
  (∀ s : Byte, s ∉ ([0x00, 0x01, 0x04, 0x05, 0x07, 0x08, 0x0A, 0x10, 0x11, 0x12, 0x13, 0x14, 0x18] : List Byte) →
    statusOf s = .unknown s) ∧
  (∀ e t s : Byte, typeCheck e true t s = (decide (t = e), if t = e then s else 0x01) ∧ typeCheck e false t s = (false, s))
end

