-- ==== Sys2Proof/Laws/Decode.lean ====
section
/-! SUPPORT. One lemma per decoding function: what an answer of it says about the bytes. -/

namespace Sys2Proof

/-- A CTRL value that decodes is the encoding of its operation. -/
theorem decodeCtrl_ok {v : Byte} {i : Instr} (h : decodeCtrl v = .ok i) :
    i.wellFormed = true ∧ i.port = .ctrl ∧ encode i = [v] := by
  have key : ∀ v : Byte, (match decodeCtrl v with
      | .ok i => i.wellFormed && decide (i.port = .ctrl) && decide (encode i = [v])
      | .error _ => true) = true := by decide
  have := key v
  rw [h] at this
  simpa [and_assoc] using this

/-- takeFrame answers the eight oldest bytes. -/
theorem takeFrame_ok {bs : List Byte} {f : Frame} {rest : List Byte} (h : takeFrame bs = .ok (f, rest)) :
    bs = f.toList ++ rest := by
  unfold takeFrame at h
  split at h
  · cases h; rfl
  · cases h

@[simp] theorem takeFrame_append (f : Frame) (rest : List Byte) : takeFrame (f.toList ++ rest) = .ok (f, rest) := rfl

/-- An outbound frame that decodes is the encoding of its instruction. -/
theorem decodeCmdFrame_ok {f : Frame} {i : Instr} (h : decodeCmdFrame f = .ok i) :
    i.wellFormed = true ∧ i.port = .tx ∧ encode i = f.toList := by
  obtain ⟨f0, f1, f2, f3, f4, f5, f6, f7⟩ := f
  unfold decodeCmdFrame at h
  split at h
  · cases h
  split at h
  · cases h
  split at h
  · cases h
  split at h
  · cases h
  rename_i h0 h5 h7 h6
  simp only [ne_eq, not_not] at h0 h5 h7 h6
  subst h0 h5 h7
  split at h
  · rename_i hc
    obtain ⟨h1, h2, h3, h4⟩ := hc
    simp only at h1 h2 h3 h4
    subst h1 h2 h3 h4
    cases h
    simp [Instr.wellFormed, Instr.port, encode, Frame.toList, marker, h6, checksum]
  · rename_i hc
    cases h
    refine ⟨?_, rfl, ?_⟩
    · simp only [Instr.wellFormed, Bool.not_eq_true', Bool.and_eq_false_iff, beq_eq_false_iff_ne]
      simp only at hc
      tauto
    · simp [encode, encodeCommand, Frame.toList, h6, checksum]

/-- An inbound frame that decodes is the encoding of its instruction. -/
theorem decodeAckFrame_ok {f : Frame} {i : Instr} (h : decodeAckFrame f = .ok i) :
    i.wellFormed = true ∧ i.port = .rxFrame ∧ encode i = f.toList := by
  unfold decodeAckFrame at h
  split at h
  · cases h
  · rename_i h0
    simp only [ne_eq, not_not] at h0
    cases h
    refine ⟨rfl, rfl, ?_⟩
    simp [encode, ackBytes, Frame.toList, h0]

/-- splitAtMarker cuts at the first marker. -/
theorem splitAtMarker_some {bs chars rest : List Byte} (h : splitAtMarker bs = some (chars, rest)) :
    noMarker chars = true ∧ bs = chars ++ marker :: rest := by
  induction bs generalizing chars with
  | nil => cases h
  | cons b bs ih =>
    unfold splitAtMarker at h
    split at h
    · cases h; simp [noMarker, *]
    · rename_i hb
      split at h
      · cases h
      · rename_i heq
        cases h
        obtain ⟨h1, h2⟩ := ih heq
        refine ⟨?_, by rw [h2]; rfl⟩
        simp only [noMarker, List.all_cons, Bool.and_eq_true]
        exact ⟨by simpa using hb, h1⟩

theorem splitAtMarker_append {chars : List Byte} (h : noMarker chars = true) (rest : List Byte) :
    splitAtMarker (chars ++ marker :: rest) = some (chars, rest) := by
  induction chars with
  | nil => simp [splitAtMarker]
  | cons c cs ih =>
    simp only [noMarker, List.all_cons, Bool.and_eq_true] at h
    have hc : c ≠ marker := by simpa using h.1
    simp [splitAtMarker, hc, ih h.2]

/-- A package that decodes is the encoding of its instruction, followed by the rest. -/
theorem decodePackage_ok {bs rest : List Byte} {i : Instr} (h : decodePackage bs = .ok (i, rest)) :
    i.wellFormed = true ∧ i.port = .rxPackage ∧ bs = encode i ++ rest := by
  unfold decodePackage at h
  split at h
  · cases h
  · split at h
    · cases h
    · rename_i hb
      simp only [ne_eq, not_not] at hb
      split at h
      · cases h
      · cases h
      · rename_i heq
        cases h
        obtain ⟨h1, h2⟩ := splitAtMarker_some heq
        refine ⟨by simp [Instr.wellFormed, h1], rfl, ?_⟩
        rw [hb, h2]; simp [encode]

/-- What each port's decoder answers: an instruction of that port, at the head of the run. -/
theorem decode_tx_ok {bs rest : List Byte} {i : Instr} (h : decode .tx bs = .ok (i, rest)) :
    i.port = .tx ∧ bs = encode i ++ rest := by
  unfold decode at h
  simp only at h
  split at h
  · cases h
  · rename_i f rest' hf
    split at h
    · rename_i j hj
      cases h
      obtain ⟨-, h2, h3⟩ := decodeCmdFrame_ok hj
      exact ⟨h2, by rw [h3]; exact takeFrame_ok hf⟩
    · cases h

/-- A run that is wholly one inbound unit is that unit's encoding. -/
theorem decodeWhole_rx {p : Port} {bs : List Byte} {i : Instr} (hp : p = .rxFrame ∨ p = .rxPackage)
    (h : decodeWhole p bs = some i) : i.port = p ∧ bs = encode i := by
  unfold decodeWhole at h
  split at h
  · rename_i heq
    cases h
    rcases hp with rfl | rfl
    · unfold decode at heq
      simp only at heq
      split at heq
      · cases heq
      · rename_i f rest' hf
        split at heq
        · rename_i j hj
          cases heq
          obtain ⟨-, h2, h3⟩ := decodeAckFrame_ok hj
          exact ⟨h2, by rw [h3]; simpa using takeFrame_ok hf⟩
        · cases heq
    · obtain ⟨-, h2, h3⟩ := decodePackage_ok heq
      exact ⟨h2, by simpa using h3⟩
  · cases h

end Sys2Proof
end

