-- ==== Sys2Proof/Laws/State.lean ====
section
/-! SUPPORT. What each shared update of State leaves in each field: one lemma a field, true by rfl. -/

namespace Sys2Proof.Machine

open Sys2Proof

/-! ### rxFlush -/

@[simp] theorem rxFlush_stat (s : State) : (rxFlush s).stat = s.stat := rfl
@[simp] theorem rxFlush_err (s : State) : (rxFlush s).err = s.err := rfl
@[simp] theorem rxFlush_fsm (s : State) : (rxFlush s).fsm = s.fsm := rfl
@[simp] theorem rxFlush_cmdOpcode (s : State) : (rxFlush s).cmdOpcode = s.cmdOpcode := rfl
@[simp] theorem rxFlush_cmdP1 (s : State) : (rxFlush s).cmdP1 = s.cmdP1 := rfl
@[simp] theorem rxFlush_cmdP2 (s : State) : (rxFlush s).cmdP2 = s.cmdP2 := rfl
@[simp] theorem rxFlush_cmdP3 (s : State) : (rxFlush s).cmdP3 = s.cmdP3 := rfl
@[simp] theorem rxFlush_sentOpcode (s : State) : (rxFlush s).sentOpcode = s.sentOpcode := rfl
@[simp] theorem rxFlush_resType (s : State) : (rxFlush s).resType = s.resType := rfl
@[simp] theorem rxFlush_resQ1 (s : State) : (rxFlush s).resQ1 = s.resQ1 := rfl
@[simp] theorem rxFlush_resQ2 (s : State) : (rxFlush s).resQ2 = s.resQ2 := rfl
@[simp] theorem rxFlush_resStatus (s : State) : (rxFlush s).resStatus = s.resStatus := rfl
@[simp] theorem rxFlush_cmdStatus (s : State) : (rxFlush s).cmdStatus = s.cmdStatus := rfl
@[simp] theorem rxFlush_cksum (s : State) : (rxFlush s).cksum = s.cksum := rfl
@[simp] theorem rxFlush_pkgLen (s : State) : (rxFlush s).pkgLen = s.pkgLen := rfl
@[simp] theorem rxFlush_lastOp (s : State) : (rxFlush s).lastOp = s.lastOp := rfl
@[simp] theorem rxFlush_txf (s : State) : (rxFlush s).txf = s.txf := rfl
@[simp] theorem rxFlush_rxf (s : State) : (rxFlush s).rxf = s.rxf := rfl
@[simp] theorem rxFlush_frameIn (s : State) : (rxFlush s).frameIn = s.frameIn := rfl
@[simp] theorem rxFlush_pkgBuf (s : State) : (rxFlush s).pkgBuf = s.pkgBuf := rfl
@[simp] theorem rxFlush_outerCnt (s : State) : (rxFlush s).outerCnt = s.outerCnt := rfl
@[simp] theorem rxFlush_resyncCnt (s : State) : (rxFlush s).resyncCnt = s.resyncCnt := rfl
@[simp] theorem rxFlush_rxq (s : State) : (rxFlush s).rxq = [] := rfl
@[simp] theorem rxFlush_txq (s : State) : (rxFlush s).txq = s.txq := rfl
@[simp] theorem rxFlush_cfg (s : State) : (rxFlush s).cfg = s.cfg := rfl
@[simp] theorem rxFlush_inputs (s : State) : (rxFlush s).inputs = s.inputs := rfl
@[simp] theorem rxFlush_hostRdata (s : State) : (rxFlush s).hostRdata = s.hostRdata := rfl
@[simp] theorem rxFlush_faultBits (s : State) : (rxFlush s).faultBits = s.faultBits := rfl

/-! ### txWrite -/

@[simp] theorem txWrite_stat (bs : List Byte) (s : State) : (txWrite bs s).stat = s.stat := rfl
@[simp] theorem txWrite_err (bs : List Byte) (s : State) : (txWrite bs s).err = s.err := rfl
@[simp] theorem txWrite_fsm (bs : List Byte) (s : State) : (txWrite bs s).fsm = s.fsm := rfl
@[simp] theorem txWrite_cmdOpcode (bs : List Byte) (s : State) : (txWrite bs s).cmdOpcode = s.cmdOpcode := rfl
@[simp] theorem txWrite_cmdP1 (bs : List Byte) (s : State) : (txWrite bs s).cmdP1 = s.cmdP1 := rfl
@[simp] theorem txWrite_cmdP2 (bs : List Byte) (s : State) : (txWrite bs s).cmdP2 = s.cmdP2 := rfl
@[simp] theorem txWrite_cmdP3 (bs : List Byte) (s : State) : (txWrite bs s).cmdP3 = s.cmdP3 := rfl
@[simp] theorem txWrite_sentOpcode (bs : List Byte) (s : State) : (txWrite bs s).sentOpcode = s.sentOpcode := rfl
@[simp] theorem txWrite_resType (bs : List Byte) (s : State) : (txWrite bs s).resType = s.resType := rfl
@[simp] theorem txWrite_resQ1 (bs : List Byte) (s : State) : (txWrite bs s).resQ1 = s.resQ1 := rfl
@[simp] theorem txWrite_resQ2 (bs : List Byte) (s : State) : (txWrite bs s).resQ2 = s.resQ2 := rfl
@[simp] theorem txWrite_resStatus (bs : List Byte) (s : State) : (txWrite bs s).resStatus = s.resStatus := rfl
@[simp] theorem txWrite_cmdStatus (bs : List Byte) (s : State) : (txWrite bs s).cmdStatus = s.cmdStatus := rfl
@[simp] theorem txWrite_cksum (bs : List Byte) (s : State) : (txWrite bs s).cksum = s.cksum := rfl
@[simp] theorem txWrite_pkgLen (bs : List Byte) (s : State) : (txWrite bs s).pkgLen = s.pkgLen := rfl
@[simp] theorem txWrite_lastOp (bs : List Byte) (s : State) : (txWrite bs s).lastOp = s.lastOp := rfl
@[simp] theorem txWrite_txf (bs : List Byte) (s : State) : (txWrite bs s).txf = s.txf := rfl
@[simp] theorem txWrite_rxf (bs : List Byte) (s : State) : (txWrite bs s).rxf = s.rxf := rfl
@[simp] theorem txWrite_frameIn (bs : List Byte) (s : State) : (txWrite bs s).frameIn = s.frameIn := rfl
@[simp] theorem txWrite_pkgBuf (bs : List Byte) (s : State) : (txWrite bs s).pkgBuf = s.pkgBuf := rfl
@[simp] theorem txWrite_outerCnt (bs : List Byte) (s : State) : (txWrite bs s).outerCnt = s.outerCnt := rfl
@[simp] theorem txWrite_resyncCnt (bs : List Byte) (s : State) : (txWrite bs s).resyncCnt = s.resyncCnt := rfl
@[simp] theorem txWrite_rxq (bs : List Byte) (s : State) : (txWrite bs s).rxq = s.rxq := rfl
@[simp] theorem txWrite_txq (bs : List Byte) (s : State) : (txWrite bs s).txq = s.txq ++ bs := rfl
@[simp] theorem txWrite_cfg (bs : List Byte) (s : State) : (txWrite bs s).cfg = s.cfg := rfl
@[simp] theorem txWrite_inputs (bs : List Byte) (s : State) : (txWrite bs s).inputs = s.inputs := rfl
@[simp] theorem txWrite_hostRdata (bs : List Byte) (s : State) : (txWrite bs s).hostRdata = s.hostRdata := rfl
@[simp] theorem txWrite_faultBits (bs : List Byte) (s : State) : (txWrite bs s).faultBits = s.faultBits := rfl

/-! ### lineDrain -/

@[simp] theorem lineDrain_stat (s : State) : (lineDrain s).stat = s.stat := rfl
@[simp] theorem lineDrain_err (s : State) : (lineDrain s).err = s.err := rfl
@[simp] theorem lineDrain_fsm (s : State) : (lineDrain s).fsm = s.fsm := rfl
@[simp] theorem lineDrain_cmdOpcode (s : State) : (lineDrain s).cmdOpcode = s.cmdOpcode := rfl
@[simp] theorem lineDrain_cmdP1 (s : State) : (lineDrain s).cmdP1 = s.cmdP1 := rfl
@[simp] theorem lineDrain_cmdP2 (s : State) : (lineDrain s).cmdP2 = s.cmdP2 := rfl
@[simp] theorem lineDrain_cmdP3 (s : State) : (lineDrain s).cmdP3 = s.cmdP3 := rfl
@[simp] theorem lineDrain_sentOpcode (s : State) : (lineDrain s).sentOpcode = s.sentOpcode := rfl
@[simp] theorem lineDrain_resType (s : State) : (lineDrain s).resType = s.resType := rfl
@[simp] theorem lineDrain_resQ1 (s : State) : (lineDrain s).resQ1 = s.resQ1 := rfl
@[simp] theorem lineDrain_resQ2 (s : State) : (lineDrain s).resQ2 = s.resQ2 := rfl
@[simp] theorem lineDrain_resStatus (s : State) : (lineDrain s).resStatus = s.resStatus := rfl
@[simp] theorem lineDrain_cmdStatus (s : State) : (lineDrain s).cmdStatus = s.cmdStatus := rfl
@[simp] theorem lineDrain_cksum (s : State) : (lineDrain s).cksum = s.cksum := rfl
@[simp] theorem lineDrain_pkgLen (s : State) : (lineDrain s).pkgLen = s.pkgLen := rfl
@[simp] theorem lineDrain_lastOp (s : State) : (lineDrain s).lastOp = s.lastOp := rfl
@[simp] theorem lineDrain_txf (s : State) : (lineDrain s).txf = s.txf := rfl
@[simp] theorem lineDrain_rxf (s : State) : (lineDrain s).rxf = s.rxf := rfl
@[simp] theorem lineDrain_frameIn (s : State) : (lineDrain s).frameIn = s.frameIn := rfl
@[simp] theorem lineDrain_pkgBuf (s : State) : (lineDrain s).pkgBuf = s.pkgBuf := rfl
@[simp] theorem lineDrain_outerCnt (s : State) : (lineDrain s).outerCnt = s.outerCnt := rfl
@[simp] theorem lineDrain_resyncCnt (s : State) : (lineDrain s).resyncCnt = s.resyncCnt := rfl
@[simp] theorem lineDrain_rxq (s : State) : (lineDrain s).rxq = s.rxq := rfl
@[simp] theorem lineDrain_txq (s : State) : (lineDrain s).txq = s.txq.tail := rfl
@[simp] theorem lineDrain_cfg (s : State) : (lineDrain s).cfg = s.cfg := rfl
@[simp] theorem lineDrain_inputs (s : State) : (lineDrain s).inputs = s.inputs := rfl
@[simp] theorem lineDrain_hostRdata (s : State) : (lineDrain s).hostRdata = s.hostRdata := rfl
@[simp] theorem lineDrain_faultBits (s : State) : (lineDrain s).faultBits = s.faultBits := rfl

/-! ### pkgClear -/

@[simp] theorem pkgClear_stat_busy (s : State) : (pkgClear s).stat.busy = s.stat.busy := rfl
@[simp] theorem pkgClear_stat_done (s : State) : (pkgClear s).stat.done = s.stat.done := rfl
@[simp] theorem pkgClear_stat_respValid (s : State) : (pkgClear s).stat.respValid = s.stat.respValid := rfl
@[simp] theorem pkgClear_stat_isLocal (s : State) : (pkgClear s).stat.isLocal = s.stat.isLocal := rfl
@[simp] theorem pkgClear_stat_cksumOk (s : State) : (pkgClear s).stat.cksumOk = s.stat.cksumOk := rfl
@[simp] theorem pkgClear_stat_typeMatch (s : State) : (pkgClear s).stat.typeMatch = s.stat.typeMatch := rfl
@[simp] theorem pkgClear_stat_pkgHexOk (s : State) : (pkgClear s).stat.pkgHexOk = false := rfl
@[simp] theorem pkgClear_err (s : State) : (pkgClear s).err = s.err := rfl
@[simp] theorem pkgClear_fsm (s : State) : (pkgClear s).fsm = s.fsm := rfl
@[simp] theorem pkgClear_cmdOpcode (s : State) : (pkgClear s).cmdOpcode = s.cmdOpcode := rfl
@[simp] theorem pkgClear_cmdP1 (s : State) : (pkgClear s).cmdP1 = s.cmdP1 := rfl
@[simp] theorem pkgClear_cmdP2 (s : State) : (pkgClear s).cmdP2 = s.cmdP2 := rfl
@[simp] theorem pkgClear_cmdP3 (s : State) : (pkgClear s).cmdP3 = s.cmdP3 := rfl
@[simp] theorem pkgClear_sentOpcode (s : State) : (pkgClear s).sentOpcode = s.sentOpcode := rfl
@[simp] theorem pkgClear_resType (s : State) : (pkgClear s).resType = s.resType := rfl
@[simp] theorem pkgClear_resQ1 (s : State) : (pkgClear s).resQ1 = s.resQ1 := rfl
@[simp] theorem pkgClear_resQ2 (s : State) : (pkgClear s).resQ2 = s.resQ2 := rfl
@[simp] theorem pkgClear_resStatus (s : State) : (pkgClear s).resStatus = s.resStatus := rfl
@[simp] theorem pkgClear_cmdStatus (s : State) : (pkgClear s).cmdStatus = s.cmdStatus := rfl
@[simp] theorem pkgClear_cksum (s : State) : (pkgClear s).cksum = s.cksum := rfl
@[simp] theorem pkgClear_pkgLen (s : State) : (pkgClear s).pkgLen = 0 := rfl
@[simp] theorem pkgClear_lastOp (s : State) : (pkgClear s).lastOp = s.lastOp := rfl
@[simp] theorem pkgClear_txf (s : State) : (pkgClear s).txf = s.txf := rfl
@[simp] theorem pkgClear_rxf (s : State) : (pkgClear s).rxf = s.rxf := rfl
@[simp] theorem pkgClear_frameIn (s : State) : (pkgClear s).frameIn = s.frameIn := rfl
@[simp] theorem pkgClear_pkgBuf (s : State) : (pkgClear s).pkgBuf = [] := rfl
@[simp] theorem pkgClear_outerCnt (s : State) : (pkgClear s).outerCnt = s.outerCnt := rfl
@[simp] theorem pkgClear_resyncCnt (s : State) : (pkgClear s).resyncCnt = s.resyncCnt := rfl
@[simp] theorem pkgClear_rxq (s : State) : (pkgClear s).rxq = s.rxq := rfl
@[simp] theorem pkgClear_txq (s : State) : (pkgClear s).txq = s.txq := rfl
@[simp] theorem pkgClear_cfg (s : State) : (pkgClear s).cfg = s.cfg := rfl
@[simp] theorem pkgClear_inputs (s : State) : (pkgClear s).inputs = s.inputs := rfl
@[simp] theorem pkgClear_hostRdata (s : State) : (pkgClear s).hostRdata = s.hostRdata := rfl
@[simp] theorem pkgClear_faultBits (s : State) : (pkgClear s).faultBits = s.faultBits := rfl

/-! ### pkgAppend -/

@[simp] theorem pkgAppend_stat (c : Byte) (s : State) : (pkgAppend c s).stat = s.stat := rfl
@[simp] theorem pkgAppend_err (c : Byte) (s : State) : (pkgAppend c s).err = s.err := rfl
@[simp] theorem pkgAppend_fsm (c : Byte) (s : State) : (pkgAppend c s).fsm = s.fsm := rfl
@[simp] theorem pkgAppend_cmdOpcode (c : Byte) (s : State) : (pkgAppend c s).cmdOpcode = s.cmdOpcode := rfl
@[simp] theorem pkgAppend_cmdP1 (c : Byte) (s : State) : (pkgAppend c s).cmdP1 = s.cmdP1 := rfl
@[simp] theorem pkgAppend_cmdP2 (c : Byte) (s : State) : (pkgAppend c s).cmdP2 = s.cmdP2 := rfl
@[simp] theorem pkgAppend_cmdP3 (c : Byte) (s : State) : (pkgAppend c s).cmdP3 = s.cmdP3 := rfl
@[simp] theorem pkgAppend_sentOpcode (c : Byte) (s : State) : (pkgAppend c s).sentOpcode = s.sentOpcode := rfl
@[simp] theorem pkgAppend_resType (c : Byte) (s : State) : (pkgAppend c s).resType = s.resType := rfl
@[simp] theorem pkgAppend_resQ1 (c : Byte) (s : State) : (pkgAppend c s).resQ1 = s.resQ1 := rfl
@[simp] theorem pkgAppend_resQ2 (c : Byte) (s : State) : (pkgAppend c s).resQ2 = s.resQ2 := rfl
@[simp] theorem pkgAppend_resStatus (c : Byte) (s : State) : (pkgAppend c s).resStatus = s.resStatus := rfl
@[simp] theorem pkgAppend_cmdStatus (c : Byte) (s : State) : (pkgAppend c s).cmdStatus = s.cmdStatus := rfl
@[simp] theorem pkgAppend_cksum (c : Byte) (s : State) : (pkgAppend c s).cksum = s.cksum := rfl
@[simp] theorem pkgAppend_pkgLen (c : Byte) (s : State) : (pkgAppend c s).pkgLen = s.pkgLen + 1 := rfl
@[simp] theorem pkgAppend_lastOp (c : Byte) (s : State) : (pkgAppend c s).lastOp = s.lastOp := rfl
@[simp] theorem pkgAppend_txf (c : Byte) (s : State) : (pkgAppend c s).txf = s.txf := rfl
@[simp] theorem pkgAppend_rxf (c : Byte) (s : State) : (pkgAppend c s).rxf = s.rxf := rfl
@[simp] theorem pkgAppend_frameIn (c : Byte) (s : State) : (pkgAppend c s).frameIn = s.frameIn := rfl
@[simp] theorem pkgAppend_pkgBuf (c : Byte) (s : State) : (pkgAppend c s).pkgBuf = writeAt s.pkgBuf s.pkgLen.toNat c := rfl
@[simp] theorem pkgAppend_outerCnt (c : Byte) (s : State) : (pkgAppend c s).outerCnt = s.outerCnt := rfl
@[simp] theorem pkgAppend_resyncCnt (c : Byte) (s : State) : (pkgAppend c s).resyncCnt = s.resyncCnt := rfl
@[simp] theorem pkgAppend_rxq (c : Byte) (s : State) : (pkgAppend c s).rxq = s.rxq := rfl
@[simp] theorem pkgAppend_txq (c : Byte) (s : State) : (pkgAppend c s).txq = s.txq := rfl
@[simp] theorem pkgAppend_cfg (c : Byte) (s : State) : (pkgAppend c s).cfg = s.cfg := rfl
@[simp] theorem pkgAppend_inputs (c : Byte) (s : State) : (pkgAppend c s).inputs = s.inputs := rfl
@[simp] theorem pkgAppend_hostRdata (c : Byte) (s : State) : (pkgAppend c s).hostRdata = s.hostRdata := rfl
@[simp] theorem pkgAppend_faultBits (c : Byte) (s : State) : (pkgAppend c s).faultBits = s.faultBits := rfl

/-! ### flagOverlap -/

@[simp] theorem flagOverlap_stat (s : State) : (flagOverlap s).stat = s.stat := rfl
@[simp] theorem flagOverlap_err_illegalOp (s : State) : (flagOverlap s).err.illegalOp = s.err.illegalOp := rfl
@[simp] theorem flagOverlap_err_overlap (s : State) : (flagOverlap s).err.overlap = true := rfl
@[simp] theorem flagOverlap_err_rxOverrun (s : State) : (flagOverlap s).err.rxOverrun = s.err.rxOverrun := rfl
@[simp] theorem flagOverlap_fsm (s : State) : (flagOverlap s).fsm = s.fsm := rfl
@[simp] theorem flagOverlap_cmdOpcode (s : State) : (flagOverlap s).cmdOpcode = s.cmdOpcode := rfl
@[simp] theorem flagOverlap_cmdP1 (s : State) : (flagOverlap s).cmdP1 = s.cmdP1 := rfl
@[simp] theorem flagOverlap_cmdP2 (s : State) : (flagOverlap s).cmdP2 = s.cmdP2 := rfl
@[simp] theorem flagOverlap_cmdP3 (s : State) : (flagOverlap s).cmdP3 = s.cmdP3 := rfl
@[simp] theorem flagOverlap_sentOpcode (s : State) : (flagOverlap s).sentOpcode = s.sentOpcode := rfl
@[simp] theorem flagOverlap_resType (s : State) : (flagOverlap s).resType = s.resType := rfl
@[simp] theorem flagOverlap_resQ1 (s : State) : (flagOverlap s).resQ1 = s.resQ1 := rfl
@[simp] theorem flagOverlap_resQ2 (s : State) : (flagOverlap s).resQ2 = s.resQ2 := rfl
@[simp] theorem flagOverlap_resStatus (s : State) : (flagOverlap s).resStatus = s.resStatus := rfl
@[simp] theorem flagOverlap_cmdStatus (s : State) : (flagOverlap s).cmdStatus = s.cmdStatus := rfl
@[simp] theorem flagOverlap_cksum (s : State) : (flagOverlap s).cksum = s.cksum := rfl
@[simp] theorem flagOverlap_pkgLen (s : State) : (flagOverlap s).pkgLen = s.pkgLen := rfl
@[simp] theorem flagOverlap_lastOp (s : State) : (flagOverlap s).lastOp = s.lastOp := rfl
@[simp] theorem flagOverlap_txf (s : State) : (flagOverlap s).txf = s.txf := rfl
@[simp] theorem flagOverlap_rxf (s : State) : (flagOverlap s).rxf = s.rxf := rfl
@[simp] theorem flagOverlap_frameIn (s : State) : (flagOverlap s).frameIn = s.frameIn := rfl
@[simp] theorem flagOverlap_pkgBuf (s : State) : (flagOverlap s).pkgBuf = s.pkgBuf := rfl
@[simp] theorem flagOverlap_outerCnt (s : State) : (flagOverlap s).outerCnt = s.outerCnt := rfl
@[simp] theorem flagOverlap_resyncCnt (s : State) : (flagOverlap s).resyncCnt = s.resyncCnt := rfl
@[simp] theorem flagOverlap_rxq (s : State) : (flagOverlap s).rxq = s.rxq := rfl
@[simp] theorem flagOverlap_txq (s : State) : (flagOverlap s).txq = s.txq := rfl
@[simp] theorem flagOverlap_cfg (s : State) : (flagOverlap s).cfg = s.cfg := rfl
@[simp] theorem flagOverlap_inputs (s : State) : (flagOverlap s).inputs = s.inputs := rfl
@[simp] theorem flagOverlap_hostRdata (s : State) : (flagOverlap s).hostRdata = s.hostRdata := rfl
@[simp] theorem flagOverlap_faultBits_illegalOp (s : State) : (flagOverlap s).faultBits.illegalOp = s.faultBits.illegalOp := rfl
@[simp] theorem flagOverlap_faultBits_overlap (s : State) : (flagOverlap s).faultBits.overlap = true := rfl
@[simp] theorem flagOverlap_faultBits_rxOverrun (s : State) : (flagOverlap s).faultBits.rxOverrun = s.faultBits.rxOverrun := rfl
@[simp] theorem flagOverlap_faultBits_pkgRawRead (s : State) : (flagOverlap s).faultBits.pkgRawRead = s.faultBits.pkgRawRead := rfl
@[simp] theorem flagOverlap_faultBits_staleRead (s : State) : (flagOverlap s).faultBits.staleRead = s.faultBits.staleRead := rfl

/-! ### flagIllegal -/

@[simp] theorem flagIllegal_stat (s : State) : (flagIllegal s).stat = s.stat := rfl
@[simp] theorem flagIllegal_err_illegalOp (s : State) : (flagIllegal s).err.illegalOp = true := rfl
@[simp] theorem flagIllegal_err_overlap (s : State) : (flagIllegal s).err.overlap = s.err.overlap := rfl
@[simp] theorem flagIllegal_err_rxOverrun (s : State) : (flagIllegal s).err.rxOverrun = s.err.rxOverrun := rfl
@[simp] theorem flagIllegal_fsm (s : State) : (flagIllegal s).fsm = s.fsm := rfl
@[simp] theorem flagIllegal_cmdOpcode (s : State) : (flagIllegal s).cmdOpcode = s.cmdOpcode := rfl
@[simp] theorem flagIllegal_cmdP1 (s : State) : (flagIllegal s).cmdP1 = s.cmdP1 := rfl
@[simp] theorem flagIllegal_cmdP2 (s : State) : (flagIllegal s).cmdP2 = s.cmdP2 := rfl
@[simp] theorem flagIllegal_cmdP3 (s : State) : (flagIllegal s).cmdP3 = s.cmdP3 := rfl
@[simp] theorem flagIllegal_sentOpcode (s : State) : (flagIllegal s).sentOpcode = s.sentOpcode := rfl
@[simp] theorem flagIllegal_resType (s : State) : (flagIllegal s).resType = s.resType := rfl
@[simp] theorem flagIllegal_resQ1 (s : State) : (flagIllegal s).resQ1 = s.resQ1 := rfl
@[simp] theorem flagIllegal_resQ2 (s : State) : (flagIllegal s).resQ2 = s.resQ2 := rfl
@[simp] theorem flagIllegal_resStatus (s : State) : (flagIllegal s).resStatus = s.resStatus := rfl
@[simp] theorem flagIllegal_cmdStatus (s : State) : (flagIllegal s).cmdStatus = s.cmdStatus := rfl
@[simp] theorem flagIllegal_cksum (s : State) : (flagIllegal s).cksum = s.cksum := rfl
@[simp] theorem flagIllegal_pkgLen (s : State) : (flagIllegal s).pkgLen = s.pkgLen := rfl
@[simp] theorem flagIllegal_lastOp (s : State) : (flagIllegal s).lastOp = s.lastOp := rfl
@[simp] theorem flagIllegal_txf (s : State) : (flagIllegal s).txf = s.txf := rfl
@[simp] theorem flagIllegal_rxf (s : State) : (flagIllegal s).rxf = s.rxf := rfl
@[simp] theorem flagIllegal_frameIn (s : State) : (flagIllegal s).frameIn = s.frameIn := rfl
@[simp] theorem flagIllegal_pkgBuf (s : State) : (flagIllegal s).pkgBuf = s.pkgBuf := rfl
@[simp] theorem flagIllegal_outerCnt (s : State) : (flagIllegal s).outerCnt = s.outerCnt := rfl
@[simp] theorem flagIllegal_resyncCnt (s : State) : (flagIllegal s).resyncCnt = s.resyncCnt := rfl
@[simp] theorem flagIllegal_rxq (s : State) : (flagIllegal s).rxq = s.rxq := rfl
@[simp] theorem flagIllegal_txq (s : State) : (flagIllegal s).txq = s.txq := rfl
@[simp] theorem flagIllegal_cfg (s : State) : (flagIllegal s).cfg = s.cfg := rfl
@[simp] theorem flagIllegal_inputs (s : State) : (flagIllegal s).inputs = s.inputs := rfl
@[simp] theorem flagIllegal_hostRdata (s : State) : (flagIllegal s).hostRdata = s.hostRdata := rfl
@[simp] theorem flagIllegal_faultBits_illegalOp (s : State) : (flagIllegal s).faultBits.illegalOp = true := rfl
@[simp] theorem flagIllegal_faultBits_overlap (s : State) : (flagIllegal s).faultBits.overlap = s.faultBits.overlap := rfl
@[simp] theorem flagIllegal_faultBits_rxOverrun (s : State) : (flagIllegal s).faultBits.rxOverrun = s.faultBits.rxOverrun := rfl
@[simp] theorem flagIllegal_faultBits_pkgRawRead (s : State) : (flagIllegal s).faultBits.pkgRawRead = s.faultBits.pkgRawRead := rfl
@[simp] theorem flagIllegal_faultBits_staleRead (s : State) : (flagIllegal s).faultBits.staleRead = s.faultBits.staleRead := rfl

/-! ### completeNow -/

@[simp] theorem completeNow_stat_busy (op : Byte) (s : State) : (completeNow op s).stat.busy = s.stat.busy := rfl
@[simp] theorem completeNow_stat_done (op : Byte) (s : State) : (completeNow op s).stat.done = true := rfl
@[simp] theorem completeNow_stat_respValid (op : Byte) (s : State) : (completeNow op s).stat.respValid = s.stat.respValid := rfl
@[simp] theorem completeNow_stat_isLocal (op : Byte) (s : State) : (completeNow op s).stat.isLocal = s.stat.isLocal := rfl
@[simp] theorem completeNow_stat_cksumOk (op : Byte) (s : State) : (completeNow op s).stat.cksumOk = s.stat.cksumOk := rfl
@[simp] theorem completeNow_stat_typeMatch (op : Byte) (s : State) : (completeNow op s).stat.typeMatch = s.stat.typeMatch := rfl
@[simp] theorem completeNow_stat_pkgHexOk (op : Byte) (s : State) : (completeNow op s).stat.pkgHexOk = s.stat.pkgHexOk := rfl
@[simp] theorem completeNow_err (op : Byte) (s : State) : (completeNow op s).err = s.err := rfl
@[simp] theorem completeNow_fsm (op : Byte) (s : State) : (completeNow op s).fsm = s.fsm := rfl
@[simp] theorem completeNow_cmdOpcode (op : Byte) (s : State) : (completeNow op s).cmdOpcode = s.cmdOpcode := rfl
@[simp] theorem completeNow_cmdP1 (op : Byte) (s : State) : (completeNow op s).cmdP1 = s.cmdP1 := rfl
@[simp] theorem completeNow_cmdP2 (op : Byte) (s : State) : (completeNow op s).cmdP2 = s.cmdP2 := rfl
@[simp] theorem completeNow_cmdP3 (op : Byte) (s : State) : (completeNow op s).cmdP3 = s.cmdP3 := rfl
@[simp] theorem completeNow_sentOpcode (op : Byte) (s : State) : (completeNow op s).sentOpcode = s.sentOpcode := rfl
@[simp] theorem completeNow_resType (op : Byte) (s : State) : (completeNow op s).resType = s.resType := rfl
@[simp] theorem completeNow_resQ1 (op : Byte) (s : State) : (completeNow op s).resQ1 = s.resQ1 := rfl
@[simp] theorem completeNow_resQ2 (op : Byte) (s : State) : (completeNow op s).resQ2 = s.resQ2 := rfl
@[simp] theorem completeNow_resStatus (op : Byte) (s : State) : (completeNow op s).resStatus = s.resStatus := rfl
@[simp] theorem completeNow_cmdStatus (op : Byte) (s : State) : (completeNow op s).cmdStatus = s.cmdStatus := rfl
@[simp] theorem completeNow_cksum (op : Byte) (s : State) : (completeNow op s).cksum = s.cksum := rfl
@[simp] theorem completeNow_pkgLen (op : Byte) (s : State) : (completeNow op s).pkgLen = s.pkgLen := rfl
@[simp] theorem completeNow_lastOp (op : Byte) (s : State) : (completeNow op s).lastOp = op := rfl
@[simp] theorem completeNow_txf (op : Byte) (s : State) : (completeNow op s).txf = s.txf := rfl
@[simp] theorem completeNow_rxf (op : Byte) (s : State) : (completeNow op s).rxf = s.rxf := rfl
@[simp] theorem completeNow_frameIn (op : Byte) (s : State) : (completeNow op s).frameIn = s.frameIn := rfl
@[simp] theorem completeNow_pkgBuf (op : Byte) (s : State) : (completeNow op s).pkgBuf = s.pkgBuf := rfl
@[simp] theorem completeNow_outerCnt (op : Byte) (s : State) : (completeNow op s).outerCnt = s.outerCnt := rfl
@[simp] theorem completeNow_resyncCnt (op : Byte) (s : State) : (completeNow op s).resyncCnt = s.resyncCnt := rfl
@[simp] theorem completeNow_rxq (op : Byte) (s : State) : (completeNow op s).rxq = s.rxq := rfl
@[simp] theorem completeNow_txq (op : Byte) (s : State) : (completeNow op s).txq = s.txq := rfl
@[simp] theorem completeNow_cfg (op : Byte) (s : State) : (completeNow op s).cfg = s.cfg := rfl
@[simp] theorem completeNow_inputs (op : Byte) (s : State) : (completeNow op s).inputs = s.inputs := rfl
@[simp] theorem completeNow_hostRdata (op : Byte) (s : State) : (completeNow op s).hostRdata = s.hostRdata := rfl
@[simp] theorem completeNow_faultBits (op : Byte) (s : State) : (completeNow op s).faultBits = s.faultBits := rfl

/-! ### startOp -/

@[simp] theorem startOp_stat_busy (op : Byte) (ph : FsmCode) (s : State) : (startOp op ph s).stat.busy = true := rfl
@[simp] theorem startOp_stat_done (op : Byte) (ph : FsmCode) (s : State) : (startOp op ph s).stat.done = false := rfl
@[simp] theorem startOp_stat_respValid (op : Byte) (ph : FsmCode) (s : State) : (startOp op ph s).stat.respValid = s.stat.respValid := rfl
@[simp] theorem startOp_stat_isLocal (op : Byte) (ph : FsmCode) (s : State) : (startOp op ph s).stat.isLocal = s.stat.isLocal := rfl
@[simp] theorem startOp_stat_cksumOk (op : Byte) (ph : FsmCode) (s : State) : (startOp op ph s).stat.cksumOk = s.stat.cksumOk := rfl
@[simp] theorem startOp_stat_typeMatch (op : Byte) (ph : FsmCode) (s : State) : (startOp op ph s).stat.typeMatch = s.stat.typeMatch := rfl
@[simp] theorem startOp_stat_pkgHexOk (op : Byte) (ph : FsmCode) (s : State) : (startOp op ph s).stat.pkgHexOk = s.stat.pkgHexOk := rfl
@[simp] theorem startOp_err (op : Byte) (ph : FsmCode) (s : State) : (startOp op ph s).err = s.err := rfl
@[simp] theorem startOp_fsm (op : Byte) (ph : FsmCode) (s : State) : (startOp op ph s).fsm = ph := rfl
@[simp] theorem startOp_cmdOpcode (op : Byte) (ph : FsmCode) (s : State) : (startOp op ph s).cmdOpcode = s.cmdOpcode := rfl
@[simp] theorem startOp_cmdP1 (op : Byte) (ph : FsmCode) (s : State) : (startOp op ph s).cmdP1 = s.cmdP1 := rfl
@[simp] theorem startOp_cmdP2 (op : Byte) (ph : FsmCode) (s : State) : (startOp op ph s).cmdP2 = s.cmdP2 := rfl
@[simp] theorem startOp_cmdP3 (op : Byte) (ph : FsmCode) (s : State) : (startOp op ph s).cmdP3 = s.cmdP3 := rfl
@[simp] theorem startOp_sentOpcode (op : Byte) (ph : FsmCode) (s : State) : (startOp op ph s).sentOpcode = s.sentOpcode := rfl
@[simp] theorem startOp_resType (op : Byte) (ph : FsmCode) (s : State) : (startOp op ph s).resType = s.resType := rfl
@[simp] theorem startOp_resQ1 (op : Byte) (ph : FsmCode) (s : State) : (startOp op ph s).resQ1 = s.resQ1 := rfl
@[simp] theorem startOp_resQ2 (op : Byte) (ph : FsmCode) (s : State) : (startOp op ph s).resQ2 = s.resQ2 := rfl
@[simp] theorem startOp_resStatus (op : Byte) (ph : FsmCode) (s : State) : (startOp op ph s).resStatus = s.resStatus := rfl
@[simp] theorem startOp_cmdStatus (op : Byte) (ph : FsmCode) (s : State) : (startOp op ph s).cmdStatus = s.cmdStatus := rfl
@[simp] theorem startOp_cksum (op : Byte) (ph : FsmCode) (s : State) : (startOp op ph s).cksum = s.cksum := rfl
@[simp] theorem startOp_pkgLen (op : Byte) (ph : FsmCode) (s : State) : (startOp op ph s).pkgLen = s.pkgLen := rfl
@[simp] theorem startOp_lastOp (op : Byte) (ph : FsmCode) (s : State) : (startOp op ph s).lastOp = op := rfl
@[simp] theorem startOp_txf (op : Byte) (ph : FsmCode) (s : State) : (startOp op ph s).txf = s.txf := rfl
@[simp] theorem startOp_rxf (op : Byte) (ph : FsmCode) (s : State) : (startOp op ph s).rxf = s.rxf := rfl
@[simp] theorem startOp_frameIn (op : Byte) (ph : FsmCode) (s : State) : (startOp op ph s).frameIn = s.frameIn := rfl
@[simp] theorem startOp_pkgBuf (op : Byte) (ph : FsmCode) (s : State) : (startOp op ph s).pkgBuf = s.pkgBuf := rfl
@[simp] theorem startOp_outerCnt (op : Byte) (ph : FsmCode) (s : State) : (startOp op ph s).outerCnt = s.outerCnt := rfl
@[simp] theorem startOp_resyncCnt (op : Byte) (ph : FsmCode) (s : State) : (startOp op ph s).resyncCnt = s.resyncCnt := rfl
@[simp] theorem startOp_rxq (op : Byte) (ph : FsmCode) (s : State) : (startOp op ph s).rxq = s.rxq := rfl
@[simp] theorem startOp_txq (op : Byte) (ph : FsmCode) (s : State) : (startOp op ph s).txq = s.txq := rfl
@[simp] theorem startOp_cfg (op : Byte) (ph : FsmCode) (s : State) : (startOp op ph s).cfg = s.cfg := rfl
@[simp] theorem startOp_inputs (op : Byte) (ph : FsmCode) (s : State) : (startOp op ph s).inputs = s.inputs := rfl
@[simp] theorem startOp_hostRdata (op : Byte) (ph : FsmCode) (s : State) : (startOp op ph s).hostRdata = s.hostRdata := rfl
@[simp] theorem startOp_faultBits (op : Byte) (ph : FsmCode) (s : State) : (startOp op ph s).faultBits = s.faultBits := rfl

/-! ### finish -/

@[simp] theorem finish_stat_busy (st : Byte) (loc : Bool) (s : State) : (finish st loc s).stat.busy = false := rfl
@[simp] theorem finish_stat_done (st : Byte) (loc : Bool) (s : State) : (finish st loc s).stat.done = true := rfl
@[simp] theorem finish_stat_respValid (st : Byte) (loc : Bool) (s : State) : (finish st loc s).stat.respValid = s.stat.respValid := rfl
@[simp] theorem finish_stat_isLocal (st : Byte) (loc : Bool) (s : State) : (finish st loc s).stat.isLocal = loc := rfl
@[simp] theorem finish_stat_cksumOk (st : Byte) (loc : Bool) (s : State) : (finish st loc s).stat.cksumOk = s.stat.cksumOk := rfl
@[simp] theorem finish_stat_typeMatch (st : Byte) (loc : Bool) (s : State) : (finish st loc s).stat.typeMatch = s.stat.typeMatch := rfl
@[simp] theorem finish_stat_pkgHexOk (st : Byte) (loc : Bool) (s : State) : (finish st loc s).stat.pkgHexOk = s.stat.pkgHexOk := rfl
@[simp] theorem finish_err (st : Byte) (loc : Bool) (s : State) : (finish st loc s).err = s.err := rfl
@[simp] theorem finish_fsm (st : Byte) (loc : Bool) (s : State) : (finish st loc s).fsm = fsmIdle := rfl
@[simp] theorem finish_cmdOpcode (st : Byte) (loc : Bool) (s : State) : (finish st loc s).cmdOpcode = s.cmdOpcode := rfl
@[simp] theorem finish_cmdP1 (st : Byte) (loc : Bool) (s : State) : (finish st loc s).cmdP1 = s.cmdP1 := rfl
@[simp] theorem finish_cmdP2 (st : Byte) (loc : Bool) (s : State) : (finish st loc s).cmdP2 = s.cmdP2 := rfl
@[simp] theorem finish_cmdP3 (st : Byte) (loc : Bool) (s : State) : (finish st loc s).cmdP3 = s.cmdP3 := rfl
@[simp] theorem finish_sentOpcode (st : Byte) (loc : Bool) (s : State) : (finish st loc s).sentOpcode = s.sentOpcode := rfl
@[simp] theorem finish_resType (st : Byte) (loc : Bool) (s : State) : (finish st loc s).resType = s.resType := rfl
@[simp] theorem finish_resQ1 (st : Byte) (loc : Bool) (s : State) : (finish st loc s).resQ1 = s.resQ1 := rfl
@[simp] theorem finish_resQ2 (st : Byte) (loc : Bool) (s : State) : (finish st loc s).resQ2 = s.resQ2 := rfl
@[simp] theorem finish_resStatus (st : Byte) (loc : Bool) (s : State) : (finish st loc s).resStatus = st := rfl
@[simp] theorem finish_cmdStatus (st : Byte) (loc : Bool) (s : State) : (finish st loc s).cmdStatus = s.cmdStatus := rfl
@[simp] theorem finish_cksum (st : Byte) (loc : Bool) (s : State) : (finish st loc s).cksum = s.cksum := rfl
@[simp] theorem finish_pkgLen (st : Byte) (loc : Bool) (s : State) : (finish st loc s).pkgLen = s.pkgLen := rfl
@[simp] theorem finish_lastOp (st : Byte) (loc : Bool) (s : State) : (finish st loc s).lastOp = s.lastOp := rfl
@[simp] theorem finish_txf (st : Byte) (loc : Bool) (s : State) : (finish st loc s).txf = s.txf := rfl
@[simp] theorem finish_rxf (st : Byte) (loc : Bool) (s : State) : (finish st loc s).rxf = s.rxf := rfl
@[simp] theorem finish_frameIn (st : Byte) (loc : Bool) (s : State) : (finish st loc s).frameIn = s.frameIn := rfl
@[simp] theorem finish_pkgBuf (st : Byte) (loc : Bool) (s : State) : (finish st loc s).pkgBuf = s.pkgBuf := rfl
@[simp] theorem finish_outerCnt (st : Byte) (loc : Bool) (s : State) : (finish st loc s).outerCnt = s.outerCnt := rfl
@[simp] theorem finish_resyncCnt (st : Byte) (loc : Bool) (s : State) : (finish st loc s).resyncCnt = s.resyncCnt := rfl
@[simp] theorem finish_rxq (st : Byte) (loc : Bool) (s : State) : (finish st loc s).rxq = s.rxq := rfl
@[simp] theorem finish_txq (st : Byte) (loc : Bool) (s : State) : (finish st loc s).txq = s.txq := rfl
@[simp] theorem finish_cfg (st : Byte) (loc : Bool) (s : State) : (finish st loc s).cfg = s.cfg := rfl
@[simp] theorem finish_inputs (st : Byte) (loc : Bool) (s : State) : (finish st loc s).inputs = s.inputs := rfl
@[simp] theorem finish_hostRdata (st : Byte) (loc : Bool) (s : State) : (finish st loc s).hostRdata = s.hostRdata := rfl
@[simp] theorem finish_faultBits (st : Byte) (loc : Bool) (s : State) : (finish st loc s).faultBits = s.faultBits := rfl

/-! ### noAck -/

@[simp] theorem noAck_stat_busy (st : Byte) (s : State) : (noAck st s).stat.busy = s.stat.busy := rfl
@[simp] theorem noAck_stat_done (st : Byte) (s : State) : (noAck st s).stat.done = s.stat.done := rfl
@[simp] theorem noAck_stat_respValid (st : Byte) (s : State) : (noAck st s).stat.respValid = false := rfl
@[simp] theorem noAck_stat_isLocal (st : Byte) (s : State) : (noAck st s).stat.isLocal = s.stat.isLocal := rfl
@[simp] theorem noAck_stat_cksumOk (st : Byte) (s : State) : (noAck st s).stat.cksumOk = s.stat.cksumOk := rfl
@[simp] theorem noAck_stat_typeMatch (st : Byte) (s : State) : (noAck st s).stat.typeMatch = false := rfl
@[simp] theorem noAck_stat_pkgHexOk (st : Byte) (s : State) : (noAck st s).stat.pkgHexOk = s.stat.pkgHexOk := rfl
@[simp] theorem noAck_err (st : Byte) (s : State) : (noAck st s).err = s.err := rfl
@[simp] theorem noAck_fsm (st : Byte) (s : State) : (noAck st s).fsm = s.fsm := rfl
@[simp] theorem noAck_cmdOpcode (st : Byte) (s : State) : (noAck st s).cmdOpcode = s.cmdOpcode := rfl
@[simp] theorem noAck_cmdP1 (st : Byte) (s : State) : (noAck st s).cmdP1 = s.cmdP1 := rfl
@[simp] theorem noAck_cmdP2 (st : Byte) (s : State) : (noAck st s).cmdP2 = s.cmdP2 := rfl
@[simp] theorem noAck_cmdP3 (st : Byte) (s : State) : (noAck st s).cmdP3 = s.cmdP3 := rfl
@[simp] theorem noAck_sentOpcode (st : Byte) (s : State) : (noAck st s).sentOpcode = s.sentOpcode := rfl
@[simp] theorem noAck_resType (st : Byte) (s : State) : (noAck st s).resType = s.resType := rfl
@[simp] theorem noAck_resQ1 (st : Byte) (s : State) : (noAck st s).resQ1 = s.resQ1 := rfl
@[simp] theorem noAck_resQ2 (st : Byte) (s : State) : (noAck st s).resQ2 = s.resQ2 := rfl
@[simp] theorem noAck_resStatus (st : Byte) (s : State) : (noAck st s).resStatus = s.resStatus := rfl
@[simp] theorem noAck_cmdStatus (st : Byte) (s : State) : (noAck st s).cmdStatus = st := rfl
@[simp] theorem noAck_cksum (st : Byte) (s : State) : (noAck st s).cksum = s.cksum := rfl
@[simp] theorem noAck_pkgLen (st : Byte) (s : State) : (noAck st s).pkgLen = s.pkgLen := rfl
@[simp] theorem noAck_lastOp (st : Byte) (s : State) : (noAck st s).lastOp = s.lastOp := rfl
@[simp] theorem noAck_txf (st : Byte) (s : State) : (noAck st s).txf = s.txf := rfl
@[simp] theorem noAck_rxf (st : Byte) (s : State) : (noAck st s).rxf = s.rxf := rfl
@[simp] theorem noAck_frameIn (st : Byte) (s : State) : (noAck st s).frameIn = s.frameIn := rfl
@[simp] theorem noAck_pkgBuf (st : Byte) (s : State) : (noAck st s).pkgBuf = s.pkgBuf := rfl
@[simp] theorem noAck_outerCnt (st : Byte) (s : State) : (noAck st s).outerCnt = s.outerCnt := rfl
@[simp] theorem noAck_resyncCnt (st : Byte) (s : State) : (noAck st s).resyncCnt = s.resyncCnt := rfl
@[simp] theorem noAck_rxq (st : Byte) (s : State) : (noAck st s).rxq = s.rxq := rfl
@[simp] theorem noAck_txq (st : Byte) (s : State) : (noAck st s).txq = s.txq := rfl
@[simp] theorem noAck_cfg (st : Byte) (s : State) : (noAck st s).cfg = s.cfg := rfl
@[simp] theorem noAck_inputs (st : Byte) (s : State) : (noAck st s).inputs = s.inputs := rfl
@[simp] theorem noAck_hostRdata (st : Byte) (s : State) : (noAck st s).hostRdata = s.hostRdata := rfl
@[simp] theorem noAck_faultBits (st : Byte) (s : State) : (noAck st s).faultBits = s.faultBits := rfl

/-! ### setVerdict -/

@[simp] theorem setVerdict_stat_busy (m : Bool × Byte) (s : State) : (setVerdict m s).stat.busy = s.stat.busy := rfl
@[simp] theorem setVerdict_stat_done (m : Bool × Byte) (s : State) : (setVerdict m s).stat.done = s.stat.done := rfl
@[simp] theorem setVerdict_stat_respValid (m : Bool × Byte) (s : State) : (setVerdict m s).stat.respValid = s.stat.respValid := rfl
@[simp] theorem setVerdict_stat_isLocal (m : Bool × Byte) (s : State) : (setVerdict m s).stat.isLocal = s.stat.isLocal := rfl
@[simp] theorem setVerdict_stat_cksumOk (m : Bool × Byte) (s : State) : (setVerdict m s).stat.cksumOk = s.stat.cksumOk := rfl
@[simp] theorem setVerdict_stat_typeMatch (m : Bool × Byte) (s : State) : (setVerdict m s).stat.typeMatch = m.1 := rfl
@[simp] theorem setVerdict_stat_pkgHexOk (m : Bool × Byte) (s : State) : (setVerdict m s).stat.pkgHexOk = s.stat.pkgHexOk := rfl
@[simp] theorem setVerdict_err (m : Bool × Byte) (s : State) : (setVerdict m s).err = s.err := rfl
@[simp] theorem setVerdict_fsm (m : Bool × Byte) (s : State) : (setVerdict m s).fsm = s.fsm := rfl
@[simp] theorem setVerdict_cmdOpcode (m : Bool × Byte) (s : State) : (setVerdict m s).cmdOpcode = s.cmdOpcode := rfl
@[simp] theorem setVerdict_cmdP1 (m : Bool × Byte) (s : State) : (setVerdict m s).cmdP1 = s.cmdP1 := rfl
@[simp] theorem setVerdict_cmdP2 (m : Bool × Byte) (s : State) : (setVerdict m s).cmdP2 = s.cmdP2 := rfl
@[simp] theorem setVerdict_cmdP3 (m : Bool × Byte) (s : State) : (setVerdict m s).cmdP3 = s.cmdP3 := rfl
@[simp] theorem setVerdict_sentOpcode (m : Bool × Byte) (s : State) : (setVerdict m s).sentOpcode = s.sentOpcode := rfl
@[simp] theorem setVerdict_resType (m : Bool × Byte) (s : State) : (setVerdict m s).resType = s.resType := rfl
@[simp] theorem setVerdict_resQ1 (m : Bool × Byte) (s : State) : (setVerdict m s).resQ1 = s.resQ1 := rfl
@[simp] theorem setVerdict_resQ2 (m : Bool × Byte) (s : State) : (setVerdict m s).resQ2 = s.resQ2 := rfl
@[simp] theorem setVerdict_resStatus (m : Bool × Byte) (s : State) : (setVerdict m s).resStatus = s.resStatus := rfl
@[simp] theorem setVerdict_cmdStatus (m : Bool × Byte) (s : State) : (setVerdict m s).cmdStatus = m.2 := rfl
@[simp] theorem setVerdict_cksum (m : Bool × Byte) (s : State) : (setVerdict m s).cksum = s.cksum := rfl
@[simp] theorem setVerdict_pkgLen (m : Bool × Byte) (s : State) : (setVerdict m s).pkgLen = s.pkgLen := rfl
@[simp] theorem setVerdict_lastOp (m : Bool × Byte) (s : State) : (setVerdict m s).lastOp = s.lastOp := rfl
@[simp] theorem setVerdict_txf (m : Bool × Byte) (s : State) : (setVerdict m s).txf = s.txf := rfl
@[simp] theorem setVerdict_rxf (m : Bool × Byte) (s : State) : (setVerdict m s).rxf = s.rxf := rfl
@[simp] theorem setVerdict_frameIn (m : Bool × Byte) (s : State) : (setVerdict m s).frameIn = s.frameIn := rfl
@[simp] theorem setVerdict_pkgBuf (m : Bool × Byte) (s : State) : (setVerdict m s).pkgBuf = s.pkgBuf := rfl
@[simp] theorem setVerdict_outerCnt (m : Bool × Byte) (s : State) : (setVerdict m s).outerCnt = s.outerCnt := rfl
@[simp] theorem setVerdict_resyncCnt (m : Bool × Byte) (s : State) : (setVerdict m s).resyncCnt = s.resyncCnt := rfl
@[simp] theorem setVerdict_rxq (m : Bool × Byte) (s : State) : (setVerdict m s).rxq = s.rxq := rfl
@[simp] theorem setVerdict_txq (m : Bool × Byte) (s : State) : (setVerdict m s).txq = s.txq := rfl
@[simp] theorem setVerdict_cfg (m : Bool × Byte) (s : State) : (setVerdict m s).cfg = s.cfg := rfl
@[simp] theorem setVerdict_inputs (m : Bool × Byte) (s : State) : (setVerdict m s).inputs = s.inputs := rfl
@[simp] theorem setVerdict_hostRdata (m : Bool × Byte) (s : State) : (setVerdict m s).hostRdata = s.hostRdata := rfl
@[simp] theorem setVerdict_faultBits (m : Bool × Byte) (s : State) : (setVerdict m s).faultBits = s.faultBits := rfl

/-! ### hostRead -/

@[simp] theorem hostRead_stat (i : RegIndex) (s : State) : (hostRead i s).stat = s.stat := rfl
@[simp] theorem hostRead_err (i : RegIndex) (s : State) : (hostRead i s).err = s.err := rfl
@[simp] theorem hostRead_fsm (i : RegIndex) (s : State) : (hostRead i s).fsm = s.fsm := rfl
@[simp] theorem hostRead_cmdOpcode (i : RegIndex) (s : State) : (hostRead i s).cmdOpcode = s.cmdOpcode := rfl
@[simp] theorem hostRead_cmdP1 (i : RegIndex) (s : State) : (hostRead i s).cmdP1 = s.cmdP1 := rfl
@[simp] theorem hostRead_cmdP2 (i : RegIndex) (s : State) : (hostRead i s).cmdP2 = s.cmdP2 := rfl
@[simp] theorem hostRead_cmdP3 (i : RegIndex) (s : State) : (hostRead i s).cmdP3 = s.cmdP3 := rfl
@[simp] theorem hostRead_sentOpcode (i : RegIndex) (s : State) : (hostRead i s).sentOpcode = s.sentOpcode := rfl
@[simp] theorem hostRead_resType (i : RegIndex) (s : State) : (hostRead i s).resType = s.resType := rfl
@[simp] theorem hostRead_resQ1 (i : RegIndex) (s : State) : (hostRead i s).resQ1 = s.resQ1 := rfl
@[simp] theorem hostRead_resQ2 (i : RegIndex) (s : State) : (hostRead i s).resQ2 = s.resQ2 := rfl
@[simp] theorem hostRead_resStatus (i : RegIndex) (s : State) : (hostRead i s).resStatus = s.resStatus := rfl
@[simp] theorem hostRead_cmdStatus (i : RegIndex) (s : State) : (hostRead i s).cmdStatus = s.cmdStatus := rfl
@[simp] theorem hostRead_cksum (i : RegIndex) (s : State) : (hostRead i s).cksum = s.cksum := rfl
@[simp] theorem hostRead_pkgLen (i : RegIndex) (s : State) : (hostRead i s).pkgLen = s.pkgLen := rfl
@[simp] theorem hostRead_lastOp (i : RegIndex) (s : State) : (hostRead i s).lastOp = s.lastOp := rfl
@[simp] theorem hostRead_txf (i : RegIndex) (s : State) : (hostRead i s).txf = s.txf := rfl
@[simp] theorem hostRead_rxf (i : RegIndex) (s : State) : (hostRead i s).rxf = s.rxf := rfl
@[simp] theorem hostRead_frameIn (i : RegIndex) (s : State) : (hostRead i s).frameIn = s.frameIn := rfl
@[simp] theorem hostRead_pkgBuf (i : RegIndex) (s : State) : (hostRead i s).pkgBuf = s.pkgBuf := rfl
@[simp] theorem hostRead_outerCnt (i : RegIndex) (s : State) : (hostRead i s).outerCnt = s.outerCnt := rfl
@[simp] theorem hostRead_resyncCnt (i : RegIndex) (s : State) : (hostRead i s).resyncCnt = s.resyncCnt := rfl
@[simp] theorem hostRead_rxq (i : RegIndex) (s : State) : (hostRead i s).rxq = s.rxq := rfl
@[simp] theorem hostRead_txq (i : RegIndex) (s : State) : (hostRead i s).txq = s.txq := rfl
@[simp] theorem hostRead_cfg (i : RegIndex) (s : State) : (hostRead i s).cfg = s.cfg := rfl
@[simp] theorem hostRead_inputs (i : RegIndex) (s : State) : (hostRead i s).inputs = s.inputs := rfl
@[simp] theorem hostRead_hostRdata (i : RegIndex) (s : State) : (hostRead i s).hostRdata = hostReg s i := rfl
@[simp] theorem hostRead_faultBits_illegalOp (i : RegIndex) (s : State) : (hostRead i s).faultBits.illegalOp = s.faultBits.illegalOp := rfl
@[simp] theorem hostRead_faultBits_overlap (i : RegIndex) (s : State) : (hostRead i s).faultBits.overlap = s.faultBits.overlap := rfl
@[simp] theorem hostRead_faultBits_rxOverrun (i : RegIndex) (s : State) : (hostRead i s).faultBits.rxOverrun = s.faultBits.rxOverrun := rfl
@[simp] theorem hostRead_faultBits_pkgRawRead (i : RegIndex) (s : State) : (hostRead i s).faultBits.pkgRawRead = (s.faultBits.pkgRawRead || readsEmptyRaw s i) := rfl
@[simp] theorem hostRead_faultBits_staleRead (i : RegIndex) (s : State) : (hostRead i s).faultBits.staleRead = (s.faultBits.staleRead || readsStale s i) := rfl

end Sys2Proof.Machine
end

