-- ==== Sys2Proof/Laws/Ops.lean ====
section
/-! SUPPORT. One lemma per shared operation that says everything it can do. -/

namespace Sys2Proof.Machine

open Sys2Proof

/-! ### Receive primitives -/

theorem rxPeek_cons {s : State} {b : Byte} {rest : List Byte} (h : s.rxq = b :: rest) : rxPeek s = .ok b := by
  simp [rxPeek, h]

theorem rxPop_cons {s : State} {b : Byte} {rest : List Byte} (h : s.rxq = b :: rest) :
    rxPop s = .ok (b, { s with rxq := rest }) := by
  simp [rxPop, h]

theorem rxPopN_ok {s : State} {n : Nat} (h : n ≤ s.rxq.length) :
    rxPopN n s = .ok (s.rxq.take n, { s with rxq := s.rxq.drop n }) := by
  simp [rxPopN, h]

@[simp] theorem orFault_ok {α : Type} (a : α) (k : α → Result) : orFault (.ok a) k = k a := rfl

@[simp] theorem orFault_error {α : Type} (r : Fault) (k : α → Result) : orFault (.error r) k = .fault r := rfl

/-- A run of at least eight bytes is a frame and a rest. -/
theorem eight_le_length {l : List Byte} (h : 8 ≤ l.length) :
    ∃ f : Frame, ∃ rest, l = f.toList ++ rest ∧ rest.length + 8 = l.length := by
  match l, h with
  | b0 :: b1 :: b2 :: b3 :: b4 :: b5 :: b6 :: b7 :: rest, _ =>
    exact ⟨⟨b0, b1, b2, b3, b4, b5, b6, b7⟩, rest, by simp [Frame.toList], by simp⟩

@[simp] theorem Frame.length_toList (f : Frame) : f.toList.length = 8 := rfl

@[simp] theorem Frame.ofBytes_toList (f : Frame) : Frame.ofBytes f.toList = f := rfl

/-- ReadFrame's pop takes the eight oldest bytes as a frame. -/
theorem rxPopN_frame {s : State} {f : Frame} {rest : List Byte} (h : s.rxq = f.toList ++ rest) :
    rxPopN frameLen s = .ok (f.toList, { s with rxq := rest }) := by
  rw [rxPopN_ok (by simp [h, frameLen])]
  simp [h, frameLen, Frame.toList]

/-! ### The LINE's steps -/

/-- A run of pushes: what fits is kept in order, the rest is dropped and recorded. -/
theorem linePushAll_eq (bs : List Byte) (s : State) :
    linePushAll bs s =
      { s with
        rxq := s.rxq ++ bs.take (s.cfg.rxDepth - s.rxq.length)
        err.rxOverrun := s.err.rxOverrun || (!bs.isEmpty && decide (s.cfg.rxDepth < s.rxq.length + bs.length))
        faultBits.rxOverrun :=
          s.faultBits.rxOverrun || (!bs.isEmpty && decide (s.cfg.rxDepth < s.rxq.length + bs.length)) } := by
  induction bs generalizing s with
  | nil => simp [linePushAll]
  | cons b bs ih =>
    rw [linePushAll, ih]
    by_cases hr : s.rxq.length < s.cfg.rxDepth
    · obtain ⟨d, hd⟩ : ∃ d, s.cfg.rxDepth - s.rxq.length = d + 1 := ⟨s.cfg.rxDepth - s.rxq.length - 1, by omega⟩
      have hd' : s.cfg.rxDepth - (s.rxq.length + 1) = d := by omega
      cases bs with
      | nil => simp [linePush, hr, hd]
      | cons c cs =>
        have e1 : s.rxq.length + (cs.length + 1 + 1) = s.rxq.length + 1 + (cs.length + 1) := by omega
        simp [linePush, hr, hd, hd', e1]
    · have h0 : s.cfg.rxDepth - s.rxq.length = 0 := by omega
      have h1 : s.cfg.rxDepth < s.rxq.length + (bs.length + 1) := by omega
      simp [linePush, hr, h0, h1]

theorem lineDrainN_eq (n : Nat) (s : State) : lineDrainN n s = { s with txq := s.txq.drop n } := by
  induction n generalizing s with
  | zero => simp [lineDrainN]
  | succ n ih => rw [lineDrainN, ih]; simp [lineDrain]

/-- The line takes a queued frame, and stops on any other. -/
theorem lineTakeFrame_queued {s : State} {f : Frame} {rest : List Byte} (h : s.txq = f.toList ++ rest) :
    lineTakeFrame f s = .next { s with txq := rest } := by
  simp [lineTakeFrame, lineDrainN_eq, h, frameLen, Frame.toList]

/-! ### Requests -/

theorem request_idle {s : State} (acc : State → State) (h : s.stat.busy = false) :
    request acc s = .next (acc s) := by simp [request, h]

theorem request_busy {s : State} (acc : State → State) (h : s.stat.busy = true) :
    request acc s = .next (flagOverlap s) := by simp [request, h]

/-- Everything a legal request can do. -/
theorem request_cases {acc : State → State} {s t : State} (h : request acc s = .next t) :
    (s.stat.busy = true ∧ t = flagOverlap s) ∨ (s.stat.busy = false ∧ t = acc s) := by
  cases hb : s.stat.busy with
  | true => rw [request_busy acc hb] at h; cases h; exact .inl ⟨rfl, rfl⟩
  | false => rw [request_idle acc hb] at h; cases h; exact .inr ⟨rfl, rfl⟩

/-- An illegal CTRL value writes the ERR bits and their record, nothing else. -/
theorem requestIllegal_eq (s : State) :
    requestIllegal s =
      { s with
        err.illegalOp := true
        err.overlap := s.err.overlap || s.stat.busy
        faultBits.illegalOp := true
        faultBits.overlap := s.faultBits.overlap || s.stat.busy } := by
  cases hb : s.stat.busy <;> simp [requestIllegal, hb, flagOverlap, flagIllegal]

/-! ### DECODE -/

theorem decodeAck_valid {f : Frame} (h : checksum f = f.o6) : decodeAck f = ⟨true, f.o1, f.o2, f.o3, f.o4⟩ := by
  simp [decodeAck, h]

theorem decodeAck_invalid {f : Frame} (h : checksum f ≠ f.o6) : decodeAck f = ⟨false, f.o1, f.o2, f.o3, f.o4⟩ := by
  simp [decodeAck, h]

/-- Everything DECODE writes: RES_*, CMD_STATUS, LAST_OP and STAT. -/
theorem decodeEffect_eq (s : State) :
    decodeEffect s =
      { s with
        resType := if checksum s.frameIn = s.frameIn.o6 then s.frameIn.o1 else s.resType
        resQ1 := if checksum s.frameIn = s.frameIn.o6 then s.frameIn.o2 else s.resQ1
        resQ2 := if checksum s.frameIn = s.frameIn.o6 then s.frameIn.o3 else s.resQ2
        resStatus := if checksum s.frameIn = s.frameIn.o6 then s.frameIn.o4 else statusFail
        cmdStatus :=
          if checksum s.frameIn = s.frameIn.o6 ∧ s.frameIn.o1 = s.cmdOpcode then s.frameIn.o4 else statusFail
        lastOp := 0x03
        stat := { s.stat with
          respValid := decide (checksum s.frameIn = s.frameIn.o6)
          isLocal := !decide (checksum s.frameIn = s.frameIn.o6)
          cksumOk := decide (checksum s.frameIn = s.frameIn.o6)
          typeMatch := decide (checksum s.frameIn = s.frameIn.o6 ∧ s.frameIn.o1 = s.cmdOpcode)
          done := true } } := by
  by_cases h : checksum s.frameIn = s.frameIn.o6
  · by_cases ht : s.frameIn.o1 = s.cmdOpcode <;>
      simp [decodeEffect, decodeVerdict, decodeResult, decodeAck_valid h, decodeValid, setVerdict, typeCheck,
        completeNow, h, ht]
  · simp [decodeEffect, decodeVerdict, decodeResult, decodeAck_invalid h, decodeInvalid, setVerdict, typeCheck,
      completeNow, h]

/-! ### EXCHANGE -/

/-- R146: everything a successful exchange writes. -/
theorem exchangeSuccess_eq (a : DecodedAck) (s : State) :
    exchangeSuccess a s =
      { s with
        resType := a.type, resQ1 := a.q1, resQ2 := a.q2, resStatus := a.status
        cmdStatus := if a.type = s.sentOpcode then a.status else statusFail
        stat := { s.stat with
          respValid := true, cksumOk := true, typeMatch := decide (a.type = s.sentOpcode)
          isLocal := false, busy := false, done := true }
        fsm := fsmIdle } := by
  by_cases hc : a.type = s.sentOpcode <;> simp [exchangeSuccess, finish, setVerdict, typeCheck, hc]

/-- R147, R148: everything a failed exchange writes. -/
theorem exchangeFail_eq (st : Byte) (s : State) :
    exchangeFail st s =
      { s with
        rxq := [], resStatus := st, cmdStatus := st
        stat := { s.stat with
          respValid := false, cksumOk := false, typeMatch := false, isLocal := true, busy := false, done := true }
        fsm := fsmIdle } := rfl

/-! ### The package buffer -/

/-- R184: everything a successful package read writes. -/
theorem pkgSuccess_eq (s : State) :
    pkgSuccess s =
      { s with
        resStatus := statusSuccess, cmdStatus := statusSuccess
        stat := { s.stat with
          pkgHexOk := s.pkgIsHex, respValid := false, typeMatch := false, isLocal := true, busy := false, done := true }
        fsm := fsmIdle } := rfl

/-- R185, R186: everything a failed package read writes. -/
theorem pkgFail_eq (st : Byte) (s : State) :
    pkgFail st s =
      { s with
        rxq := [], pkgLen := 0, pkgBuf := [], resStatus := st, cmdStatus := st
        stat := { s.stat with
          pkgHexOk := false, respValid := false, typeMatch := false, isLocal := true, busy := false, done := true }
        fsm := fsmIdle } := rfl

@[simp] theorem length_writeAt (bs : List Byte) (k : Nat) (c : Byte) :
    (writeAt bs k c).length = max bs.length (k + 1) := by
  induction k generalizing bs with
  | zero => cases bs <;> simp [writeAt]
  | succ k ih => cases bs <;> simp [writeAt, ih]

/-- Writing at the first free index appends. -/
theorem writeAt_length (bs : List Byte) (c : Byte) : writeAt bs bs.length c = bs ++ [c] := by
  induction bs with
  | nil => rfl
  | cons b bs ih => simp [writeAt, ih]

/-- Reading after a write: the written index gives the character, every other what it gave. -/
theorem getD_writeAt (bs : List Byte) (k j : Nat) (c : Byte) :
    (writeAt bs k c).getD j 0x00 = if j = k then c else bs.getD j 0x00 := by
  induction k generalizing bs j with
  | zero =>
    cases bs <;> cases j <;> simp [writeAt]
  | succ k ih =>
    cases bs with
    | nil => cases j with
      | zero => simp [writeAt]
      | succ j => have := ih [] j; simp [writeAt] at this ⊢; exact this
    | cons b bs => cases j with
      | zero => simp [writeAt]
      | succ j => have := ih bs j; simp [writeAt] at this ⊢; exact this

/-- While PKG_LEN is the list's length, PKG_BUF[0..PKG_LEN-1] is the list. -/
theorem pkgChars_eq {s : State} (h : s.pkgLen.toNat = s.pkgBuf.length) : s.pkgChars = s.pkgBuf := by
  apply List.ext_getElem
  · simp [State.pkgChars, h]
  · intro i h1 h2
    simp [State.pkgChars, State.pkgChar, List.getElem?_eq_getElem h2]

/-- PKG_HEX_OK's equation over the stored characters. -/
theorem pkgIsHex_eq {s : State} (h : s.pkgLen.toNat = s.pkgBuf.length) :
    s.pkgIsHex = (decide (0 < s.pkgBuf.length) && s.pkgBuf.length % 2 == 0 && s.pkgBuf.all isHexChar) := by
  simp [State.pkgIsHex, pkgChars_eq h, h]

/-! ### Host access -/

/-- A host write to any index but CTRL changes at most ERR, CMD_* and FRAME_IN. -/
theorem hostStore_eq (i : RegIndex) (v : Byte) (s : State) :
    hostStore i v s =
      { s with
        err := (hostStore i v s).err, cmdOpcode := (hostStore i v s).cmdOpcode, cmdP1 := (hostStore i v s).cmdP1
        cmdP2 := (hostStore i v s).cmdP2, cmdP3 := (hostStore i v s).cmdP3
        frameIn := (hostStore i v s).frameIn } := by
  unfold hostStore
  split <;> (try rfl)
  split <;> rfl

/-- A host write clears ERR bits only at index 0x002, where v holds a 1. -/
theorem hostStore_err (i : RegIndex) (v : Byte) (s : State) :
    (hostStore i v s).err = if i = 0x002 then s.err.clear v else s.err := by
  by_cases hi : i = 0x002
  · subst hi; rfl
  · have hn : i.toNat ≠ 2 := fun h => hi (BitVec.eq_of_toNat_eq (by simpa using h))
    simp only [hi, if_false]
    unfold hostStore
    split <;> (try rfl)
    · rename_i h; exact absurd h hn
    · split <;> rfl

end Sys2Proof.Machine
end

