-- ==== Sys2Proof/Laws/Host.lean ====
section
/-! SUPPORT. What the host's register access reads and stores: the register map above the named bytes, and FRAME_IN's bytes. -/

namespace Sys2Proof

/-- A frame's byte access is its list's. -/
theorem Frame.get_eq_getD (f : Frame) {k : Nat} (h : k < 8) : f.get k = f.toList.getD k 0 := by
  obtain rfl | rfl | rfl | rfl | rfl | rfl | rfl | rfl :
    k = 0 ∨ k = 1 ∨ k = 2 ∨ k = 3 ∨ k = 4 ∨ k = 5 ∨ k = 6 ∨ k = 7 := by omega
  all_goals rfl

/-- Reading a byte after replacing one. -/
theorem Frame.get_set (f : Frame) {k j : Nat} (v : Byte) (hk : k < 8) (hj : j < 8) :
    (f.set k v).get j = if j = k then v else f.get j := by
  obtain rfl | rfl | rfl | rfl | rfl | rfl | rfl | rfl :
    k = 0 ∨ k = 1 ∨ k = 2 ∨ k = 3 ∨ k = 4 ∨ k = 5 ∨ k = 6 ∨ k = 7 := by omega
  all_goals
    obtain rfl | rfl | rfl | rfl | rfl | rfl | rfl | rfl :
      j = 0 ∨ j = 1 ∨ j = 2 ∨ j = 3 ∨ j = 4 ∨ j = 5 ∨ j = 6 ∨ j = 7 := by omega
    all_goals rfl

namespace Machine

/-- The register map above LAST_OP is its chain of ranges. -/
theorem hostReg_hi (s : State) {i : RegIndex} (h : 0x011 ≤ i.toNat) :
    hostReg s i =
      (if 0x018 ≤ i.toNat ∧ i.toNat ≤ 0x01F then s.txf.get (i.toNat - 0x018)
      else if 0x020 ≤ i.toNat ∧ i.toNat ≤ 0x027 then s.rxf.get (i.toNat - 0x020)
      else if 0x028 ≤ i.toNat ∧ i.toNat ≤ 0x02F then s.frameIn.get (i.toNat - 0x028)
      else if 0x100 ≤ i.toNat ∧ i.toNat < 0x100 + s.cfg.pkgMaxChars then s.hostPkgChar (i.toNat - 0x100)
      else if 0x200 ≤ i.toNat ∧ i.toNat < 0x200 + s.cfg.pkgMaxChars / 2 then (s.hostPkgRaw (i.toNat - 0x200)).getD 0x00
      else 0x00) := by
  unfold hostReg
  split <;> first | omega | rfl

/-- While READ_PKG is in progress the host sees no package at all. -/
theorem hostPkg_accumulating {s : State} (h : s.accumulating = true) :
    s.hostPkgLen = 0x00 ∧ (∀ k, s.hostPkgChar k = 0x00) ∧ ∀ j, s.hostPkgRaw j = none := by
  simp [State.hostPkgLen, State.hostPkgChar, State.hostPkgRaw, h]

/-- With no READ_PKG in progress the host sees PKG_LEN, PKG_BUF and PKG_RAW as they stand. -/
theorem hostPkg_settled {s : State} (h : s.accumulating = false) :
    s.hostPkgLen = s.pkgLen ∧ (∀ k, s.hostPkgChar k = if k < s.pkgLen.toNat then s.pkgChar k else 0x00) ∧
      ∀ j, s.hostPkgRaw j = s.pkgRaw j := by
  simp [State.hostPkgLen, State.hostPkgChar, State.hostPkgRaw, h]

/-- A write to an index that stores nothing stores nothing. -/
theorem hostStore_readOnly {i : RegIndex} (h : writableIndex i = false) (v : Byte) (s : State) :
    hostStore i v s = s := by
  simp only [writableIndex, Bool.or_eq_false_iff, Bool.and_eq_false_iff, decide_eq_false_iff_not,
    beq_eq_false_iff_ne] at h
  unfold hostStore
  split <;> first | omega | skip
  rw [if_neg (by omega)]

/-- What the host reads after the writable operands changed: they at their own indices, everything else as before. -/
theorem hostReg_operands (s : State) (r : List Input) (a b c d : Byte) (f : Frame) (j : RegIndex) :
    hostReg { s with inputs := r, cmdOpcode := a, cmdP1 := b, cmdP2 := c, cmdP3 := d, frameIn := f } j =
      if j.toNat = 0x004 then a else if j.toNat = 0x005 then b else if j.toNat = 0x006 then c
      else if j.toNat = 0x007 then d
      else if 0x028 ≤ j.toNat ∧ j.toNat ≤ 0x02F then f.get (j.toNat - 0x028) else hostReg s j := by
  by_cases h : 0x011 ≤ j.toNat
  · rw [hostReg_hi _ h, hostReg_hi s h, if_neg (show ¬ j.toNat = 4 by omega), if_neg (show ¬ j.toNat = 5 by omega),
      if_neg (show ¬ j.toNat = 6 by omega), if_neg (show ¬ j.toNat = 7 by omega)]
    by_cases hf : 0x028 ≤ j.toNat ∧ j.toNat ≤ 0x02F
    · rw [if_neg (by omega), if_neg (by omega), if_pos hf, if_pos hf]
    · simp only [hf, if_false]
      rfl
  · obtain ⟨n, hn, rfl⟩ : ∃ n, n < 0x011 ∧ j = BitVec.ofNat 10 n := ⟨j.toNat, by omega, by simp⟩
    clear h
    obtain rfl | rfl | rfl | rfl | rfl | rfl | rfl | rfl | rfl | rfl | rfl | rfl | rfl | rfl | rfl | rfl | rfl :
      n = 0 ∨ n = 1 ∨ n = 2 ∨ n = 3 ∨ n = 4 ∨ n = 5 ∨ n = 6 ∨ n = 7 ∨ n = 8 ∨ n = 9 ∨ n = 10 ∨ n = 11 ∨ n = 12 ∨
        n = 13 ∨ n = 14 ∨ n = 15 ∨ n = 16 := by omega
    all_goals rfl

end Machine

/-- R5: W_CNT is the least width that holds the budget. -/
theorem Config.wCnt_least (c : Config) (h : 1 ≤ c.budgetTicks) :
    c.budgetTicks < 2 ^ c.wCnt ∧ ∀ w, c.budgetTicks < 2 ^ w → c.wCnt ≤ w := by
  refine ⟨Nat.lt_log2_self, fun w hw => ?_⟩
  have h0 : c.budgetTicks ≠ 0 := by omega
  have := (Nat.log2_lt h0).2 hw
  simp only [Config.wCnt]; omega

end Sys2Proof
end

