-- ==== Sys2Proof/Laws/PerInstr.lean ====
section
/-! SUPPORT. One fact for each instruction as syntax: how many bytes its encoding has, and the byte it starts with. -/

/-- The bytes of an encoding: one for a CTRL value, eight for a frame, two more than its characters for a package (R90, R93,
R94, R95, R99); and what is sent on a line starts with the marker. -/
def Sys2Proof.Laws.EncodingShape.Statement (i : Sys2Proof.Instr) : Prop :=
  (Sys2Proof.encode i).length =
      (match i with
      | .dataPackage chars => chars.length + 2
      | _ => if i.port = .ctrl then 1 else 8) ∧
    (i.port ≠ .ctrl → (Sys2Proof.encode i).head? = some Sys2Proof.marker)

theorem Sys2Proof.Laws.EncodingShape.encodeOp : Sys2Proof.Laws.EncodingShape.Statement .encodeOp :=
  ⟨rfl, fun h => absurd rfl h⟩

theorem Sys2Proof.Laws.EncodingShape.checksumOp : Sys2Proof.Laws.EncodingShape.Statement .checksumOp :=
  ⟨rfl, fun h => absurd rfl h⟩

theorem Sys2Proof.Laws.EncodingShape.decodeOp : Sys2Proof.Laws.EncodingShape.Statement .decodeOp :=
  ⟨rfl, fun h => absurd rfl h⟩

theorem Sys2Proof.Laws.EncodingShape.exchangeOp : Sys2Proof.Laws.EncodingShape.Statement .exchangeOp :=
  ⟨rfl, fun h => absurd rfl h⟩

theorem Sys2Proof.Laws.EncodingShape.readPkgOp : Sys2Proof.Laws.EncodingShape.Statement .readPkgOp :=
  ⟨rfl, fun h => absurd rfl h⟩

theorem Sys2Proof.Laws.EncodingShape.checkTypeOp : Sys2Proof.Laws.EncodingShape.Statement .checkTypeOp :=
  ⟨rfl, fun h => absurd rfl h⟩

theorem Sys2Proof.Laws.EncodingShape.cmdFrame (opcode p1 p2 p3 : Sys2Proof.Byte) :
    Sys2Proof.Laws.EncodingShape.Statement (.cmdFrame opcode p1 p2 p3) :=
  ⟨rfl, fun _ => rfl⟩

theorem Sys2Proof.Laws.EncodingShape.ackFrame (type q1 q2 status reserved cksum trailer : Sys2Proof.Byte) :
    Sys2Proof.Laws.EncodingShape.Statement (.ackFrame type q1 q2 status reserved cksum trailer) :=
  ⟨rfl, fun _ => rfl⟩

theorem Sys2Proof.Laws.EncodingShape.wireCmdGetUserCount :
    Sys2Proof.Laws.EncodingShape.Statement .wireCmdGetUserCount :=
  ⟨rfl, fun _ => rfl⟩

theorem Sys2Proof.Laws.EncodingShape.dataPackage (chars : List Sys2Proof.Byte) :
    Sys2Proof.Laws.EncodingShape.Statement (.dataPackage chars) :=
  ⟨by simp [Sys2Proof.encode], fun _ => rfl⟩
end

