-- ==== Sys2Proof/Laws/Tick.lean ====
section
/-! SUPPORT. Everything a CTL tick can do, said once: each rule's case as a named constructor. -/

namespace Sys2Proof.Machine

open Sys2Proof

/-- `TickEffect s t`: a CTL tick from s may answer t. One constructor per branch of R39, R142 to R148 and R182 to R186. -/
inductive TickEffect (s : State) : State → Prop where
  | idle (hf : s.fsm = fsmIdle) : TickEffect s s
  | txDone (hf : s.fsm = fsmTxWait) (hq : s.txq = []) :
      TickEffect s { s with outerCnt := s.cfg.budgetTicks, fsm := fsmWait }
  | txWaiting (hf : s.fsm = fsmTxWait) (hq : s.txq ≠ []) : TickEffect s s
  | waitTimeout (hf : s.fsm = fsmWait) (h0 : s.outerCnt = 0) : TickEffect s (exchangeTimeout s)
  | waitReady (hf : s.fsm = fsmWait) (h0 : s.outerCnt ≠ 0) (hn : 8 ≤ s.rxq.length) :
      TickEffect s { s with outerCnt := s.outerCnt - 1, resyncCnt := s.cfg.budgetTicks, fsm := fsmResync }
  | waitMore (hf : s.fsm = fsmWait) (h0 : s.outerCnt ≠ 0) (hn : s.rxq.length < 8) :
      TickEffect s { s with outerCnt := s.outerCnt - 1 }
  | resyncTimeout (hf : s.fsm = fsmResync) (h0 : s.resyncCnt = 0) : TickEffect s (exchangeTimeout s)
  | resyncEmpty (hf : s.fsm = fsmResync) (h0 : s.resyncCnt ≠ 0) (hq : s.rxq = []) :
      TickEffect s { s with resyncCnt := s.resyncCnt - 1 }
  | resyncDiscard (hf : s.fsm = fsmResync) (h0 : s.resyncCnt ≠ 0) {b : Byte} {rest : List Byte}
      (hq : s.rxq = b :: rest) (hb : b ≠ marker) :
      TickEffect s { s with resyncCnt := s.resyncCnt - 1, rxq := rest }
  | resyncBack (hf : s.fsm = fsmResync) (h0 : s.resyncCnt ≠ 0) {rest : List Byte}
      (hq : s.rxq = marker :: rest) (hn : s.rxq.length < 8) :
      TickEffect s { s with resyncCnt := s.resyncCnt - 1, fsm := fsmWait }
  | readValid (hf : s.fsm = fsmResync) (h0 : s.resyncCnt ≠ 0) {f : Frame} {rest : List Byte}
      (hq : s.rxq = f.toList ++ rest) (hm : f.o0 = marker) (hv : checksum f = f.o6) :
      TickEffect s
        (exchangeSuccess (decodeAck f) { s with resyncCnt := s.resyncCnt - 1, rxq := rest, rxf := f })
  | readInvalid (hf : s.fsm = fsmResync) (h0 : s.resyncCnt ≠ 0) {f : Frame} {rest : List Byte}
      (hq : s.rxq = f.toList ++ rest) (hm : f.o0 = marker) (hv : checksum f ≠ f.o6) :
      TickEffect s (exchangeChecksumFail { s with resyncCnt := s.resyncCnt - 1, rxq := rest, rxf := f })
  | syncTimeout (hf : s.fsm = fsmPkgSync) (h0 : s.outerCnt = 0) : TickEffect s (pkgTimeout s)
  | syncEmpty (hf : s.fsm = fsmPkgSync) (h0 : s.outerCnt ≠ 0) (hq : s.rxq = []) :
      TickEffect s { s with outerCnt := s.outerCnt - 1 }
  | syncMarker (hf : s.fsm = fsmPkgSync) (h0 : s.outerCnt ≠ 0) {rest : List Byte} (hq : s.rxq = marker :: rest) :
      TickEffect s { s with outerCnt := s.outerCnt - 1, rxq := rest, fsm := fsmPkgRead }
  | syncDiscard (hf : s.fsm = fsmPkgSync) (h0 : s.outerCnt ≠ 0) {b : Byte} {rest : List Byte}
      (hq : s.rxq = b :: rest) (hb : b ≠ marker) :
      TickEffect s { s with outerCnt := s.outerCnt - 1, rxq := rest }
  | readTimeout (hf : s.fsm = fsmPkgRead) (h0 : s.outerCnt = 0) : TickEffect s (pkgTimeout s)
  | readEmpty (hf : s.fsm = fsmPkgRead) (h0 : s.outerCnt ≠ 0) (hq : s.rxq = []) :
      TickEffect s { s with outerCnt := s.outerCnt - 1 }
  | pkgDone (hf : s.fsm = fsmPkgRead) (h0 : s.outerCnt ≠ 0) {rest : List Byte} (hq : s.rxq = marker :: rest)
      (hl : 0 < s.pkgLen.toNat) : TickEffect s (pkgSuccess { s with outerCnt := s.outerCnt - 1 })
  | pkgEmptyPayload (hf : s.fsm = fsmPkgRead) (h0 : s.outerCnt ≠ 0) {rest : List Byte} (hq : s.rxq = marker :: rest)
      (hl : s.pkgLen.toNat = 0) : TickEffect s { s with outerCnt := s.outerCnt - 1 }
  | pkgFull (hf : s.fsm = fsmPkgRead) (h0 : s.outerCnt ≠ 0) {c : Byte} {rest : List Byte} (hq : s.rxq = c :: rest)
      (hc : c ≠ marker) (hl : s.pkgLen.toNat = s.cfg.pkgMaxChars) :
      TickEffect s (pkgOverflow { s with outerCnt := s.outerCnt - 1, rxq := rest })
  | pkgChar (hf : s.fsm = fsmPkgRead) (h0 : s.outerCnt ≠ 0) {c : Byte} {rest : List Byte} (hq : s.rxq = c :: rest)
      (hc : c ≠ marker) (hl : s.pkgLen.toNat ≠ s.cfg.pkgMaxChars) :
      TickEffect s (pkgAppend c { s with outerCnt := s.outerCnt - 1, rxq := rest })

theorem rxq_cases (s : State) : s.rxq = [] ∨ ∃ b rest, s.rxq = b :: rest := by
  cases s.rxq <;> simp

theorem fsm_cases (x : FsmCode) :
    x = fsmIdle ∨ x = fsmTxWait ∨ x = fsmWait ∨ x = fsmResync ∨ x = fsmPkgSync ∨ x = fsmPkgRead ∨ 6 ≤ x.toNat := by
  revert x; decide

theorem ctlTick_idle {s : State} (h : s.fsm = fsmIdle) : ctlTick s = .next s := by simp [ctlTick, h]

theorem ctlTick_txWait {s : State} (h : s.fsm = fsmTxWait) : ctlTick s = .next (txWaitTick s) := by
  simp [ctlTick, h, fsmIdle, fsmTxWait]

theorem ctlTick_wait {s : State} (h : s.fsm = fsmWait) : ctlTick s = .next (waitTick s) := by
  simp [ctlTick, h, fsmIdle, fsmTxWait, fsmWait]

theorem ctlTick_resync {s : State} (h : s.fsm = fsmResync) : ctlTick s = resyncTick s := by
  simp [ctlTick, h, fsmIdle, fsmTxWait, fsmWait, fsmResync]

theorem ctlTick_pkgSync {s : State} (h : s.fsm = fsmPkgSync) : ctlTick s = pkgSyncTick s := by
  simp [ctlTick, h, fsmIdle, fsmTxWait, fsmWait, fsmResync, fsmPkgSync]

theorem ctlTick_pkgRead {s : State} (h : s.fsm = fsmPkgRead) : ctlTick s = pkgReadTick s := by
  simp [ctlTick, h, fsmIdle, fsmTxWait, fsmWait, fsmResync, fsmPkgSync, fsmPkgRead]

theorem ctlTick_illegal {s : State} (h : 6 ≤ s.fsm.toNat) : ctlTick s = .fault .fsmCode := by
  have h0 : ∀ c : FsmCode, c.toNat < 6 → s.fsm ≠ c := fun c hc he => by rw [he] at h; omega
  simp [ctlTick, h0 fsmIdle (by decide), h0 fsmTxWait (by decide), h0 fsmWait (by decide), h0 fsmResync (by decide),
    h0 fsmPkgSync (by decide), h0 fsmPkgRead (by decide)]

/-! ### The polls, one lemma a branch -/

theorem waitPoll_ready {s : State} (h : 8 ≤ s.rxq.length) :
    waitPoll s = { s with resyncCnt := s.cfg.budgetTicks, fsm := fsmResync } := if_pos h

theorem waitPoll_more {s : State} (h : s.rxq.length < 8) : waitPoll s = s := if_neg (by simp [rxAvail, frameLen, h])

theorem resyncPoll_empty {s : State} (h : s.rxq = []) : resyncPoll s = .next s := by simp [resyncPoll, rxAvail, h]

theorem resyncPoll_discard {s : State} {b : Byte} {rest : List Byte} (h : s.rxq = b :: rest) (hb : b ≠ marker) :
    resyncPoll s = .next { s with rxq := rest } := by
  simp [resyncPoll, rxAvail, h, rxPeek_cons h, rxPop_cons h, hb]

theorem resyncPoll_back {s : State} {rest : List Byte} (h : s.rxq = marker :: rest) (hn : s.rxq.length < 8) :
    resyncPoll s = .next { s with fsm := fsmWait } := by
  have hn' : ¬ 7 ≤ rest.length := by rw [h] at hn; simp at hn; omega
  simp [resyncPoll, rxAvail, h, rxPeek_cons h, frameLen, hn']

theorem resyncPoll_read {s : State} {f : Frame} {rest : List Byte} (h : s.rxq = f.toList ++ rest) (hm : f.o0 = marker) :
    resyncPoll s = readFrame s := by
  have hc : s.rxq = marker :: ([f.o1, f.o2, f.o3, f.o4, f.o5, f.o6, f.o7] ++ rest) := by simp [h, Frame.toList, hm]
  simp [resyncPoll, rxAvail, rxPeek_cons hc, frameLen, h]

theorem readFrame_valid {s : State} {f : Frame} {rest : List Byte} (h : s.rxq = f.toList ++ rest)
    (hv : checksum f = f.o6) : readFrame s = .next (exchangeSuccess (decodeAck f) { s with rxq := rest, rxf := f }) := by
  simp [readFrame, rxPopN_frame h, decodeAck, hv]

theorem readFrame_invalid {s : State} {f : Frame} {rest : List Byte} (h : s.rxq = f.toList ++ rest)
    (hv : checksum f ≠ f.o6) : readFrame s = .next (exchangeChecksumFail { s with rxq := rest, rxf := f }) := by
  simp [readFrame, rxPopN_frame h, decodeAck, hv]

theorem pkgSyncPoll_empty {s : State} (h : s.rxq = []) : pkgSyncPoll s = .next s := by simp [pkgSyncPoll, rxAvail, h]

theorem pkgSyncPoll_marker {s : State} {rest : List Byte} (h : s.rxq = marker :: rest) :
    pkgSyncPoll s = .next { s with rxq := rest, fsm := fsmPkgRead } := by
  simp [pkgSyncPoll, rxAvail, h, rxPop_cons h]

theorem pkgSyncPoll_discard {s : State} {b : Byte} {rest : List Byte} (h : s.rxq = b :: rest) (hb : b ≠ marker) :
    pkgSyncPoll s = .next { s with rxq := rest } := by
  simp [pkgSyncPoll, rxAvail, h, rxPop_cons h, hb]

theorem pkgReadPoll_empty {s : State} (h : s.rxq = []) : pkgReadPoll s = .next s := by simp [pkgReadPoll, rxAvail, h]

theorem pkgReadPoll_done {s : State} {rest : List Byte} (h : s.rxq = marker :: rest) (hl : 0 < s.pkgLen.toNat) :
    pkgReadPoll s = .next (pkgSuccess s) := by
  simp [pkgReadPoll, rxAvail, h, rxPeek_cons h, hl]

theorem pkgReadPoll_emptyPayload {s : State} {rest : List Byte} (h : s.rxq = marker :: rest) (hl : s.pkgLen.toNat = 0) :
    pkgReadPoll s = .next s := by
  simp [pkgReadPoll, rxAvail, h, rxPeek_cons h, hl]

theorem pkgReadPoll_full {s : State} {c : Byte} {rest : List Byte} (h : s.rxq = c :: rest) (hc : c ≠ marker)
    (hl : s.pkgLen.toNat = s.cfg.pkgMaxChars) : pkgReadPoll s = .next (pkgOverflow { s with rxq := rest }) := by
  simp [pkgReadPoll, rxAvail, h, rxPeek_cons h, rxPop_cons h, hc, hl]

theorem pkgReadPoll_char {s : State} {c : Byte} {rest : List Byte} (h : s.rxq = c :: rest) (hc : c ≠ marker)
    (hl : s.pkgLen.toNat ≠ s.cfg.pkgMaxChars) : pkgReadPoll s = .next (pkgAppend c { s with rxq := rest }) := by
  simp [pkgReadPoll, rxAvail, h, rxPeek_cons h, rxPop_cons h, hc, hl]

/-! ### The ticks -/

/-- The RESYNC tick that reads a valid frame. -/
theorem resyncTick_valid {s : State} {f : Frame} {rest : List Byte} (h0 : s.resyncCnt ≠ 0)
    (hq : s.rxq = f.toList ++ rest) (hm : f.o0 = marker) (hv : checksum f = f.o6) :
    resyncTick s =
      .next (exchangeSuccess (decodeAck f) { s with resyncCnt := s.resyncCnt - 1, rxq := rest, rxf := f }) := by
  rw [resyncTick, if_neg h0, resyncPoll_read (s := { s with resyncCnt := s.resyncCnt - 1 }) hq hm,
    readFrame_valid (s := { s with resyncCnt := s.resyncCnt - 1 }) hq hv]

/-- The RESYNC tick that reads an invalid frame. -/
theorem resyncTick_invalid {s : State} {f : Frame} {rest : List Byte} (h0 : s.resyncCnt ≠ 0)
    (hq : s.rxq = f.toList ++ rest) (hm : f.o0 = marker) (hv : checksum f ≠ f.o6) :
    resyncTick s =
      .next (exchangeChecksumFail { s with resyncCnt := s.resyncCnt - 1, rxq := rest, rxf := f }) := by
  rw [resyncTick, if_neg h0, resyncPoll_read (s := { s with resyncCnt := s.resyncCnt - 1 }) hq hm,
    readFrame_invalid (s := { s with resyncCnt := s.resyncCnt - 1 }) hq hv]

/-- A RESYNC tick answers a next state, one of R144's branches. -/
theorem resyncTick_effect {s : State} (hf : s.fsm = fsmResync) : ∃ t, resyncTick s = .next t ∧ TickEffect s t := by
  unfold resyncTick
  by_cases h0 : s.resyncCnt = 0
  · exact ⟨_, if_pos h0, .resyncTimeout hf h0⟩
  · rw [if_neg h0]
    rcases rxq_cases s with hq | ⟨b, rest, hq⟩
    · exact ⟨_, resyncPoll_empty hq, .resyncEmpty hf h0 hq⟩
    · by_cases hb : b = marker
      · subst hb
        by_cases hn : 8 ≤ s.rxq.length
        · obtain ⟨f, rest', hl, -⟩ := eight_le_length hn
          have hm : f.o0 = marker := by
            rw [hq] at hl; simp [Frame.toList] at hl; exact hl.1.symm
          by_cases hv : checksum f = f.o6
          · exact ⟨_, (if_neg h0).symm.trans (resyncTick_valid h0 hl hm hv), .readValid hf h0 hl hm hv⟩
          · exact ⟨_, (if_neg h0).symm.trans (resyncTick_invalid h0 hl hm hv), .readInvalid hf h0 hl hm hv⟩
        · exact ⟨_, resyncPoll_back hq (by simpa using hn), .resyncBack hf h0 hq (by omega)⟩
      · exact ⟨_, resyncPoll_discard hq hb, .resyncDiscard hf h0 hq hb⟩

/-- A PKG_SYNC tick answers a next state, one of R182's branches. -/
theorem pkgSyncTick_effect {s : State} (hf : s.fsm = fsmPkgSync) : ∃ t, pkgSyncTick s = .next t ∧ TickEffect s t := by
  unfold pkgSyncTick
  by_cases h0 : s.outerCnt = 0
  · exact ⟨_, if_pos h0, .syncTimeout hf h0⟩
  · rw [if_neg h0]
    rcases rxq_cases s with hq | ⟨b, rest, hq⟩
    · exact ⟨_, pkgSyncPoll_empty hq, .syncEmpty hf h0 hq⟩
    · by_cases hb : b = marker
      · subst hb
        exact ⟨_, pkgSyncPoll_marker hq, .syncMarker hf h0 hq⟩
      · exact ⟨_, pkgSyncPoll_discard hq hb, .syncDiscard hf h0 hq hb⟩

/-- A PKG_READ tick answers a next state, one of R183's branches. -/
theorem pkgReadTick_effect {s : State} (hf : s.fsm = fsmPkgRead) : ∃ t, pkgReadTick s = .next t ∧ TickEffect s t := by
  unfold pkgReadTick
  by_cases h0 : s.outerCnt = 0
  · exact ⟨_, if_pos h0, .readTimeout hf h0⟩
  · rw [if_neg h0]
    rcases rxq_cases s with hq | ⟨b, rest, hq⟩
    · exact ⟨_, pkgReadPoll_empty hq, .readEmpty hf h0 hq⟩
    · by_cases hb : b = marker
      · subst hb
        by_cases hl : 0 < s.pkgLen.toNat
        · exact ⟨_, pkgReadPoll_done hq hl, .pkgDone hf h0 hq hl⟩
        · exact ⟨_, pkgReadPoll_emptyPayload hq (by simpa using hl), .pkgEmptyPayload hf h0 hq (by omega)⟩
      · by_cases hl : s.pkgLen.toNat = s.cfg.pkgMaxChars
        · exact ⟨_, pkgReadPoll_full hq hb hl, .pkgFull hf h0 hq hb hl⟩
        · exact ⟨_, pkgReadPoll_char hq hb hl, .pkgChar hf h0 hq hb hl⟩

theorem txWaitTick_effect {s : State} (hf : s.fsm = fsmTxWait) : TickEffect s (txWaitTick s) := by
  unfold txWaitTick txDone
  by_cases hq : s.txq = []
  · rw [if_pos (by simp [hq])]; exact .txDone hf hq
  · rw [if_neg (by simpa using hq)]; exact .txWaiting hf hq

theorem waitTick_effect {s : State} (hf : s.fsm = fsmWait) : TickEffect s (waitTick s) := by
  unfold waitTick
  by_cases h0 : s.outerCnt = 0
  · rw [if_pos h0]; exact .waitTimeout hf h0
  · rw [if_neg h0]
    by_cases hn : 8 ≤ s.rxq.length
    · rw [waitPoll_ready (by exact hn)]; exact .waitReady hf h0 hn
    · rw [waitPoll_more (by simpa using hn)]; exact .waitMore hf h0 (by omega)

/-- A tick in a legal phase answers a next state, and TickEffect says which. -/
theorem ctlTick_effect {s : State} (h : s.fsm.toNat ≤ 5) : ∃ t, ctlTick s = .next t ∧ TickEffect s t := by
  rcases fsm_cases s.fsm with hf | hf | hf | hf | hf | hf | hf
  · exact ⟨s, ctlTick_idle hf, .idle hf⟩
  · exact ⟨_, ctlTick_txWait hf, txWaitTick_effect hf⟩
  · exact ⟨_, ctlTick_wait hf, waitTick_effect hf⟩
  · rw [ctlTick_resync hf]; exact resyncTick_effect hf
  · rw [ctlTick_pkgSync hf]; exact pkgSyncTick_effect hf
  · rw [ctlTick_pkgRead hf]; exact pkgReadTick_effect hf
  · omega

/-- A tick that answers a next state does what TickEffect says. -/
theorem ctlTick_cases {s t : State} (h : ctlTick s = .next t) : TickEffect s t := by
  by_cases hf : s.fsm.toNat ≤ 5
  · obtain ⟨t', ht, he⟩ := ctlTick_effect hf
    rw [h] at ht; cases ht; exact he
  · rw [ctlTick_illegal (by omega)] at h; cases h

end Sys2Proof.Machine
end

