-- ==== Sys2Proof/Laws/Step.lean ====
section
/-! SUPPORT. Everything one step can do, said once. -/

namespace Sys2Proof.Machine

open Sys2Proof

/-- `AgentEffect e s t`: the agent step of input e (not `waitDone`) from s may answer t. -/
inductive AgentEffect (e : Input) (s : State) : State → Prop where
  | tick (he : e = .tick) {t : State} (h : TickEffect s t) : AgentEffect e s t
  | reset (he : e = .rst) : AgentEffect e s (resetBlock s)
  | read {i : RegIndex} (he : e = .hostRead i) : AgentEffect e s (hostRead i s)
  | store {i : RegIndex} {v : Byte} (he : e = .hostWrite i v) (hi : i ≠ 0x000) : AgentEffect e s (hostStore i v s)
  | illegal {v : Byte} (he : e = .hostWrite 0x000 v) {err : DecodeError} (hv : decodeCtrl v = .error err) :
      AgentEffect e s (requestIllegal s)
  | overlap {v : Byte} (he : e = .hostWrite 0x000 v) {i : Instr} (hv : decodeCtrl v = .ok i) (hb : s.stat.busy = true) :
      AgentEffect e s (flagOverlap s)
  | encode (he : e = .hostWrite 0x000 0x01) (hb : s.stat.busy = false) : AgentEffect e s (encodeEffect s)
  | checksum (he : e = .hostWrite 0x000 0x02) (hb : s.stat.busy = false) : AgentEffect e s (checksumEffect s)
  | decode (he : e = .hostWrite 0x000 0x03) (hb : s.stat.busy = false) : AgentEffect e s (decodeEffect s)
  | exchange (he : e = .hostWrite 0x000 0x04) (hb : s.stat.busy = false) : AgentEffect e s (exchangeAccept s)
  | readPkg (he : e = .hostWrite 0x000 0x05) (hb : s.stat.busy = false) : AgentEffect e s (readPkgAccept s)
  | checkType (he : e = .hostWrite 0x000 0x06) (hb : s.stat.busy = false) : AgentEffect e s (checkTypeEffect s)
  | push (he : (∃ b, e = .linePush b) ∨ (∃ bs, e = .rxFrame bs) ∨ ∃ bs, e = .rxPackage bs) (bs : List Byte) :
      AgentEffect e s (linePushAll bs s)
  | drain (he : e = .txReady ∨ e = .txFrame) (n : Nat) : AgentEffect e s (lineDrainN n s)

/-- Inbound units are runs of pushes. -/
theorem exec_inbound {i : Instr} {p : Port} (hp : p = .rxFrame ∨ p = .rxPackage) (h : i.port = p) (s : State) :
    exec i s = .next (linePushAll (encode i) s) := by
  rcases hp with rfl | rfl <;> cases i <;> first | rfl | cases h

/-- A frame that TXQ holds at its head is taken. -/
theorem exec_outbound {i : Instr} {s : State} {rest : List Byte} (h : i.port = .tx) (hq : s.txq = encode i ++ rest) :
    exec i s = .next (lineDrainN frameLen s) := by
  cases i with
  | cmdFrame o p1 p2 p3 =>
    show lineTakeFrame _ s = _
    rw [lineTakeFrame, if_pos]
    rw [hq]; simp [encode, frameLen, Frame.toList]
  | wireCmdGetUserCount =>
    show lineTakeFrame _ s = _
    rw [lineTakeFrame, if_pos]
    rw [hq]; simp [encode, frameLen]; decide
  | _ => cases h

theorem deliverInbound_eq {p : Port} (hp : p = .rxFrame ∨ p = .rxPackage) (bs : List Byte) (s : State) :
    deliverInbound p bs s = .next (linePushAll bs s) := by
  unfold deliverInbound
  split
  · rename_i i hi
    obtain ⟨h1, h2⟩ := decodeWhole_rx hp hi
    rw [exec_inbound hp h1, ← h2]
  · rfl

theorem takeOutbound_eq (s : State) : takeOutbound s = .next (lineDrainN frameLen s) := by
  unfold takeOutbound
  split
  · rename_i i rest hi
    obtain ⟨h1, h2⟩ := decode_tx_ok hi
    exact exec_outbound h1 h2
  · rfl

theorem hostWrite_ctrl_ok {v : Byte} {i : Instr} (h : decodeCtrl v = .ok i) (s : State) :
    hostWrite 0x000 v s = exec i s := by
  simp [hostWrite, decode, h]

theorem hostWrite_ctrl_error {v : Byte} {e : DecodeError} (h : decodeCtrl v = .error e) (s : State) :
    hostWrite 0x000 v s = .next (requestIllegal s) := by
  simp [hostWrite, decode, h]

theorem hostWrite_store {i : RegIndex} (hi : i ≠ 0x000) (v : Byte) (s : State) :
    hostWrite i v s = .next (hostStore i v s) := by
  simp only [hostWrite, if_neg hi]

/-- A host write always answers a next state. -/
theorem hostWrite_effect (i : RegIndex) (v : Byte) (s : State) :
    ∃ t, hostWrite i v s = .next t ∧ AgentEffect (.hostWrite i v) s t := by
  by_cases hi : i = 0x000
  · subst hi
    cases hv : decodeCtrl v with
    | error e => exact ⟨_, hostWrite_ctrl_error hv s, .illegal rfl hv⟩
    | ok op =>
      rw [hostWrite_ctrl_ok hv]
      obtain ⟨-, hp, he⟩ := decodeCtrl_ok hv
      cases hb : s.stat.busy with
      | true =>
        refine ⟨flagOverlap s, ?_, .overlap rfl hv hb⟩
        cases op <;> first | exact request_busy _ hb | cases hp
      | false =>
        cases op with
        | encodeOp => cases he; exact ⟨_, request_idle _ hb, .encode rfl hb⟩
        | checksumOp => cases he; exact ⟨_, request_idle _ hb, .checksum rfl hb⟩
        | decodeOp => cases he; exact ⟨_, request_idle _ hb, .decode rfl hb⟩
        | exchangeOp => cases he; exact ⟨_, request_idle _ hb, .exchange rfl hb⟩
        | readPkgOp => cases he; exact ⟨_, request_idle _ hb, .readPkg rfl hb⟩
        | checkTypeOp => cases he; exact ⟨_, request_idle _ hb, .checkType rfl hb⟩
        | _ => cases hp
  · exact ⟨_, hostWrite_store hi v s, .store rfl hi⟩

/-- Every input but a tick in an illegal phase answers a next state, and AgentEffect says which. -/
theorem agentStep_effect {e : Input} {s : State} (he : e ≠ .waitDone) (hf : e = .tick → s.fsm.toNat ≤ 5) :
    ∃ t, agentStep e s = .next t ∧ AgentEffect e s t := by
  cases e with
  | hostWrite i v => exact hostWrite_effect i v s
  | hostRead i => exact ⟨_, rfl, .read rfl⟩
  | linePush b => exact ⟨_, rfl, .push (.inl ⟨b, rfl⟩) [b]⟩
  | txReady => exact ⟨_, rfl, .drain (.inl rfl) 1⟩
  | tick =>
    obtain ⟨t, h1, h2⟩ := ctlTick_effect (hf rfl)
    exact ⟨t, h1, .tick rfl h2⟩
  | rst => exact ⟨_, rfl, .reset rfl⟩
  | txFrame => exact ⟨_, takeOutbound_eq s, .drain (.inr rfl) _⟩
  | rxFrame bs => exact ⟨_, deliverInbound_eq (.inl rfl) bs s, .push (.inr (.inl ⟨bs, rfl⟩)) bs⟩
  | rxPackage bs => exact ⟨_, deliverInbound_eq (.inr rfl) bs s, .push (.inr (.inr ⟨bs, rfl⟩)) bs⟩
  | waitDone => exact absurd rfl he

/-- `StepEffect s t`: a step from s may answer t. -/
inductive StepEffect (s : State) : State → Prop where
  | free (hi : s.inputs = []) {t : State} (h : TickEffect s t) : StepEffect s t
  | waiting {rest : List Input} (hi : s.inputs = .waitDone :: rest) (hd : s.stat.done = false) {t : State}
      (h : TickEffect s t) : StepEffect s t
  | waited {rest : List Input} (hi : s.inputs = .waitDone :: rest) (hd : s.stat.done = true) :
      StepEffect s { s with inputs := rest }
  | agent {e : Input} {rest : List Input} (hi : s.inputs = e :: rest) (he : e ≠ .waitDone) {t : State}
      (h : AgentEffect e { s with inputs := rest } t) : StepEffect s t

theorem step_nil {s : State} (h : s.inputs = []) : step s = ctlTick s := by
  simp [step, runInputs, h]

theorem step_cons {s : State} {e : Input} {rest : List Input} (h : s.inputs = e :: rest) (he : e ≠ .waitDone) :
    step s = agentStep e { s with inputs := rest } := by
  cases e <;> simp_all [step, runInputs]

/-- A tick that stands first is the controller's. -/
theorem step_tick {s : State} {rest : List Input} (h : s.inputs = .tick :: rest) :
    step s = ctlTick { s with inputs := rest } := by
  rw [step_cons h (by simp)]; rfl

theorem step_waitDone {s : State} {rest : List Input} (h : s.inputs = .waitDone :: rest) :
    step s = if s.stat.done then .next { s with inputs := rest } else ctlTick s := by
  simp [step, runInputs, h]

@[simp] theorem run_zero (s : State) : run 0 s = .next s := rfl

/-- A run goes on from the next state. -/
theorem run_succ {s t : State} (k : Nat) (h : step s = .next t) : run (k + 1) s = run k t := by
  have h' : core.step s = .next t := h
  simp only [run, Host.Core.run]
  rw [h']

/-- In a legal phase a step answers a next state, and StepEffect says which. -/
theorem step_effect {s : State} (hf : s.fsm.toNat ≤ 5) : ∃ t, step s = .next t ∧ StepEffect s t := by
  rcases hi : s.inputs with _ | ⟨e, rest⟩
  · obtain ⟨t, h1, h2⟩ := ctlTick_effect hf
    exact ⟨t, by rw [step_nil hi, h1], .free hi h2⟩
  · by_cases he : e = .waitDone
    · subst he
      cases hd : s.stat.done with
      | true => exact ⟨_, by rw [step_waitDone hi, hd]; rfl, .waited hi hd⟩
      | false =>
        obtain ⟨t, h1, h2⟩ := ctlTick_effect hf
        exact ⟨t, by rw [step_waitDone hi, hd, h1]; rfl, .waiting hi hd h2⟩
    · obtain ⟨t, h1, h2⟩ := agentStep_effect (s := { s with inputs := rest }) he (fun _ => hf)
      exact ⟨t, by rw [step_cons hi he, h1], .agent hi he h2⟩

/-- A step that answers a next state does what StepEffect says. -/
theorem step_cases {s t : State} (h : step s = .next t) : StepEffect s t := by
  rcases hi : s.inputs with _ | ⟨e, rest⟩
  · rw [step_nil hi] at h; exact .free hi (ctlTick_cases h)
  · by_cases he : e = .waitDone
    · subst he
      rw [step_waitDone hi] at h
      cases hd : s.stat.done with
      | true => rw [hd] at h; cases h; exact .waited hi hd
      | false => rw [hd] at h; exact .waiting hi hd (ctlTick_cases h)
    · rw [step_cons hi he] at h
      by_cases ht : e = .tick
      · subst ht; exact .agent hi he (.tick rfl (ctlTick_cases h))
      · obtain ⟨t', h1, h2⟩ := agentStep_effect (s := { s with inputs := rest }) he (fun h => absurd h ht)
        rw [h] at h1; cases h1; exact .agent hi he h2

end Sys2Proof.Machine
end

