-- ==== Sys2Proof/Tests/Slice0.lean ====
section
/-! SUPPORT. The model's own tests. Expected values come from the spec: its encodings (30), its worked examples (40 to 43) and its
vectors (95: S, V, X, K, T, H). The witnesses at the end meet the hypotheses of the statements. -/

namespace Sys2Proof.Tests

open Sys2Proof Sys2Proof.Machine

/-! ### Helpers: small states and a look at one next state -/

/-- The reset state with these steps to come. -/
def coming (es : List Input) : State := { State.reset with inputs := es }

/-- A small block: B = 4, RX_DEPTH = 8, PKG_MAX_CHARS = 2. -/
def smallCfg : Config := { budgetTicks := 4, rxDepth := 8, pkgMaxChars := 2, tickUnits := 1 }

/-- A multi-tick operation in this phase on a small block, with these bytes in RXQ and both counters at n. -/
def inPhase (phase : FsmCode) (n : Nat) (rxq : List Byte) : State :=
  { State.reset with
    cfg := smallCfg, fsm := phase, rxq := rxq, outerCnt := n, resyncCnt := n, sentOpcode := 0x09
    stat := { State.reset.stat with busy := true } }

/-- Does the outcome have a next state with this property? -/
def nextHas (o : Result) (p : State → Bool) : Bool :=
  match o with
  | .next t => p t
  | .fault _ => false
  | .refused _ => false

/-- Is the outcome this fault? -/
def faultsWith (o : Result) (r : Fault) : Bool :=
  match o with
  | .next _ => false
  | .fault r' => decide (r' = r)
  | .refused _ => false

/-- 41 R153's acknowledgment. -/
def ack09 : Frame := ⟨0xF5, 0x09, 0x00, 0x05, 0x00, 0x00, 0x0C, 0xF5⟩

/-! ### Well-formedness: each check refuses an ill-formed term -/

/-- 30 R95: the frame of opcode 0x09 with zero parameters is the named row. -/
theorem test_wf_refuses_second_spelling : (Instr.cmdFrame 0x09 0x00 0x00 0x00).wellFormed = false := by decide

/-- opcode_table DATA_PACKAGE `(cccccccc)+`: at least one character. -/
theorem test_wf_refuses_empty_package : (Instr.dataPackage []).wellFormed = false := by decide

/-- 30 R99: each ci ≠ 0xF5. -/
theorem test_wf_refuses_marker_in_package : (Instr.dataPackage [0x41, 0xF5, 0x42]).wellFormed = false := by decide

/-! ### Decoding: words written out from the spec's encodings -/

theorem test_decode_ENCODE : decodeWhole .ctrl [0b00000001] = some .encodeOp := by decide
theorem test_decode_CHECKSUM : decodeWhole .ctrl [0b00000010] = some .checksumOp := by decide
theorem test_decode_DECODE : decodeWhole .ctrl [0b00000011] = some .decodeOp := by decide
theorem test_decode_EXCHANGE : decodeWhole .ctrl [0b00000100] = some .exchangeOp := by decide
theorem test_decode_READ_PKG : decodeWhole .ctrl [0b00000101] = some .readPkgOp := by decide
theorem test_decode_CHECK_TYPE : decodeWhole .ctrl [0b00000110] = some .checkTypeOp := by decide

/-- 40 R123's example frame, bit by bit in R93's layout. -/
theorem test_decode_CMD_FRAME :
    decodeWhole .tx
      [0b11110101, 0b00000001, 0b00010010, 0b00110100, 0b01010110, 0b00000000, 0b01110001, 0b11110101]
      = some (.cmdFrame 0x01 0x12 0x34 0x56) := by decide

/-- 41 R153's acknowledgment, bit by bit in R94's layout. -/
theorem test_decode_ACK_FRAME :
    decodeWhole .rxFrame
      [0b11110101, 0b00001001, 0b00000000, 0b00000101, 0b00000000, 0b00000000, 0b00001100, 0b11110101]
      = some (.ackFrame 0x09 0x00 0x05 0x00 0x00 0x0C 0xF5) := by decide

/-- opcode_table WIRE_CMD_GET_USER_COUNT, bit by bit. -/
theorem test_decode_GET_USER_COUNT :
    decodeWhole .tx
      [0b11110101, 0b00001001, 0b00000000, 0b00000000, 0b00000000, 0b00000000, 0b00001001, 0b11110101]
      = some .wireCmdGetUserCount := by decide

/-- 42 R189's stream "AB12", bit by bit in R99's layout. -/
theorem test_decode_DATA_PACKAGE :
    decodeWhole .rxPackage [0b11110101, 0b01000001, 0b01000010, 0b00110001, 0b00110010, 0b11110101]
      = some (.dataPackage [0x41, 0x42, 0x31, 0x32]) := by decide

/-- 95 H1's illegal CTRL values name nothing. -/
theorem test_decode_refuses_illegal_ctrl :
    [0x00, 0x07, 0x0F, 0x10, 0x14, 0xF4].map (fun v : Byte => decodeWhole .ctrl [v])
      = [none, none, none, none, none, none] := by decide

/-- 30 R93: a command frame with a wrong checksum, a non-zero offset 5 or no trailing marker is none. -/
theorem test_decode_refuses_bad_frames :
    [[0xF5, 0x01, 0x12, 0x34, 0x56, 0x00, 0x72, 0xF5], [0xF5, 0x01, 0x12, 0x34, 0x56, 0x01, 0x70, 0xF5],
      [0xF5, 0x01, 0x12, 0x34, 0x56, 0x00, 0x71, 0x00]].map (decodeWhole .tx) = [none, none, none] := by decide

/-- opcode_table's bit numbering: offset 0 is bits 63:56. -/
theorem test_table_words :
    decodeTableWord 64 0xF5090000000009F5 = some .wireCmdGetUserCount ∧
    decodeTableWord 64 0xF509000500000C00 = some (.ackFrame 0x09 0x00 0x05 0x00 0x00 0x0C 0x00) ∧
    decodeTableWord 48 0xF541423132F5 = some (.dataPackage [0x41, 0x42, 0x31, 0x32]) := by decide

/-! ### The codec and the pure functions -/

/-- 95 V5, V8: two command frames. -/
theorem test_encodeCommand :
    encodeCommand 0x80 0x01 0x02 0x04 = ⟨0xF5, 0x80, 0x01, 0x02, 0x04, 0x00, 0x87, 0xF5⟩ ∧
    encodeCommand 0xF5 0x00 0x00 0x00 = ⟨0xF5, 0xF5, 0x00, 0x00, 0x00, 0x00, 0xF5, 0xF5⟩ := by decide

/-- 95 V11, V12: offsets 0, 5 and 7 are not checked; 95 S2: a flipped bit at offset 6 is seen. -/
theorem test_decodeAck :
    decodeAck ⟨0x00, 0x09, 0x00, 0x05, 0x00, 0x00, 0x0C, 0x00⟩ = ⟨true, 0x09, 0x00, 0x05, 0x00⟩ ∧
    decodeAck ⟨0xF5, 0x09, 0x00, 0x05, 0x00, 0x01, 0x0D, 0xF5⟩ = ⟨true, 0x09, 0x00, 0x05, 0x00⟩ ∧
    (decodeAck ⟨0xF5, 0x09, 0x00, 0x05, 0x00, 0x00, 0x0D, 0xF5⟩).valid = false := by decide

/-- 95 T1 to T4. -/
theorem test_typeCheck :
    typeCheck 0x09 true 0x09 0x00 = (true, 0x00) ∧ typeCheck 0x09 true 0x0C 0x00 = (false, 0x01) ∧
    typeCheck 0x09 true 0x0C 0x05 = (false, 0x01) ∧ typeCheck 0x09 false 0x09 0x13 = (false, 0x13) := by decide

/-- 95 T5, T6, H6. -/
theorem test_views :
    [0x0A, 0x18, 0x02].map statusOf = [.hwError, .aborted, .unknown 0x02] ∧ u16 0x12 0x34 = 0x1234 ∧
    [0x30, 0x39, 0x41, 0x46].map hexVal = [some 0, some 9, some 10, some 15] := by decide

/-! ### The instructions, one step each -/

/-- 95 V17: TXF, STAT = 0x02, LAST_OP, nothing sent. -/
theorem test_ENCODE :
    nextHas (exec .encodeOp { State.reset with cmdOpcode := 0x01, cmdP1 := 0x12, cmdP2 := 0x34, cmdP3 := 0x56 })
      (fun t => t.txf == ⟨0xF5, 0x01, 0x12, 0x34, 0x56, 0x00, 0x71, 0xF5⟩ && t.stat.toByte == 0x02 &&
        t.lastOp == 0x01 && t.txq == [] && t.fsm == 0) = true := by decide

/-- 95 V18. -/
theorem test_CHECKSUM :
    nextHas (exec .checksumOp { State.reset with frameIn := ⟨0xF5, 0x04, 0x00, 0x2A, 0x00, 0x00, 0xAA, 0xBB⟩ })
      (fun t => t.cksum == 0x2E && t.stat.toByte == 0x02 && t.lastOp == 0x02) = true := by decide

/-- 95 V9: five bytes FF give FF. -/
theorem test_CHECKSUM_odd :
    nextHas (exec .checksumOp { State.reset with frameIn := ⟨0, 0xFF, 0xFF, 0xFF, 0xFF, 0xFF, 0, 0⟩ })
      (fun t => t.cksum == 0xFF) = true := by decide

/-- 95 V19. -/
theorem test_DECODE_valid :
    nextHas (exec .decodeOp
        { State.reset with cmdOpcode := 0x0C, frameIn := ⟨0xF5, 0x0C, 0x00, 0x03, 0x00, 0x00, 0x0F, 0xF5⟩ })
      (fun t => t.resType == 0x0C && t.resQ1 == 0x00 && t.resQ2 == 0x03 && t.resStatus == 0x00 &&
        t.stat.toByte == 0x36 && t.cmdStatus == 0x00 && t.lastOp == 0x03) = true := by decide

/-- 95 V21. -/
theorem test_DECODE_invalid :
    nextHas (exec .decodeOp
        { State.reset with cmdOpcode := 0x0C, frameIn := ⟨0xF5, 0x0C, 0x00, 0x03, 0x00, 0x00, 0x0E, 0xF5⟩ })
      (fun t => t.resType == 0x00 && t.resStatus == 0x01 && t.stat.toByte == 0x0A && t.cmdStatus == 0x01)
      = true := by decide

/-- 95 V20: after V19's results, CHECK_TYPE against 0x09. -/
theorem test_CHECK_TYPE_mismatch :
    nextHas (exec .checkTypeOp
        { State.reset with
          cmdOpcode := 0x09, resType := 0x0C, resQ2 := 0x03
          stat := { State.reset.stat with respValid := true, cksumOk := true, typeMatch := true } })
      (fun t => t.cmdStatus == 0x01 && t.stat.toByte == 0x16 && t.resType == 0x0C && t.lastOp == 0x06)
      = true := by decide

/-- 95 V22: with no valid ack the local status passes through. -/
theorem test_CHECK_TYPE_local :
    nextHas (exec .checkTypeOp
        { State.reset with
          cmdOpcode := 0x0C, resStatus := 0x01, stat := { State.reset.stat with isLocal := true } })
      (fun t => t.cmdStatus == 0x01 && t.stat.toByte == 0x0A) = true := by decide

/-- 95 X16: acceptance flushes RXQ and queues the command frame. -/
theorem test_EXCHANGE :
    nextHas (exec .exchangeOp { State.reset with cmdOpcode := 0x09, rxq := [0x11, 0x22] })
      (fun t => t.rxq == [] && t.txq == [0xF5, 0x09, 0x00, 0x00, 0x00, 0x00, 0x09, 0xF5] && t.stat.toByte == 0x01 &&
        t.fsm == 1 && t.sentOpcode == 0x09 && t.lastOp == 0x04) = true := by decide

/-- 95 X8: an EXCHANGE while BUSY only sets ERR = 0x02. -/
theorem test_EXCHANGE_busy :
    nextHas (exec .exchangeOp { inPhase 1 0 [] with cmdOpcode := 0x0C })
      (fun t => t.err.toByte == 0x02 && t.fsm == 1 && t.sentOpcode == 0x09 && t.txf == Frame.zero) = true := by decide

/-- 42 R181: the package is cleared, RXQ is kept, one budget is loaded. -/
theorem test_READ_PKG :
    nextHas (exec .readPkgOp { State.reset with rxq := [0xF5, 0x41], pkgBuf := [0x30, 0x31], pkgLen := 2 })
      (fun t => t.pkgLen == 0 && t.pkgBuf == [] && t.rxq == [0xF5, 0x41] && t.outerCnt == 8000 && t.fsm == 4 &&
        t.stat.toByte == 0x01 && t.lastOp == 0x05) = true := by decide

/-- 20 R73, 30 R103 DRAIN: the frame leaves TXQ. -/
theorem test_CMD_FRAME :
    nextHas (exec (.cmdFrame 0x01 0x12 0x34 0x56)
        { State.reset with txq := [0xF5, 0x01, 0x12, 0x34, 0x56, 0x00, 0x71, 0xF5] })
      (fun t => t.txq == []) = true := by decide

/-- Log entry 3: a frame that TXQ does not hold cannot leave. -/
theorem test_CMD_FRAME_absent : faultsWith (exec (.cmdFrame 0x01 0x12 0x34 0x56) State.reset) .frameNotQueued = true := by
  decide

/-- 95 P1: DRAIN takes F5 09 00 00 00 00 09 F5. -/
theorem test_GET_USER_COUNT :
    nextHas (exec .wireCmdGetUserCount { State.reset with txq := [0xF5, 0x09, 0x00, 0x00, 0x00, 0x00, 0x09, 0xF5] })
      (fun t => t.txq == []) = true := by decide

/-- 95 P1: the ack enters RXQ in offset order. -/
theorem test_ACK_FRAME :
    nextHas (exec (.ackFrame 0x09 0x00 0x05 0x00 0x00 0x0C 0xF5) State.reset)
      (fun t => t.rxq == [0xF5, 0x09, 0x00, 0x05, 0x00, 0x00, 0x0C, 0xF5] && t.err.toByte == 0x00) = true := by decide

/-- 95 X9: with RX_DEPTH = 8 and one byte already there, the ack's last byte is dropped, ERR = 0x04. -/
theorem test_ACK_FRAME_overrun :
    nextHas (exec (.ackFrame 0x09 0x00 0x05 0x00 0x00 0x0C 0xF5) (inPhase 2 4 [0xAA]))
      (fun t => t.rxq == [0xAA, 0xF5, 0x09, 0x00, 0x05, 0x00, 0x00, 0x0C] && t.err.toByte == 0x04) = true := by decide

/-- 95 S9: the package enters RXQ between its markers. -/
theorem test_DATA_PACKAGE :
    nextHas (exec (.dataPackage [0x41, 0x42, 0x31, 0x32]) State.reset)
      (fun t => t.rxq == [0xF5, 0x41, 0x42, 0x31, 0x32, 0xF5]) = true := by decide

/-! ### The controller's ticks -/

/-- 95 H5: an IDLE tick consumes nothing. -/
theorem test_tick_idle : nextHas (ctlTick { State.reset with rxq := [0xF5] }) (fun t => t.rxq == [0xF5]) = true := by
  decide

/-- 95 X15: with bytes in TXQ the exchange stays in TX_WAIT. -/
theorem test_tick_txWait : nextHas (ctlTick { inPhase 1 0 [] with txq := [0xF5] }) (fun t => t.fsm == 1) = true := by
  decide

/-- 41 R152 case 6: OUTER_CNT = 1 and eight bytes present: the last check succeeds. -/
theorem test_tick_wait_last_check :
    nextHas (ctlTick (inPhase 2 1 ack09.toList)) (fun t => t.fsm == 3 && t.outerCnt == 0 && t.resyncCnt == 4) = true := by
  decide

/-- 41 R152 case 5, 95 X4: a marker with three bytes goes back to WAIT, the marker kept. -/
theorem test_tick_resync_back :
    nextHas (ctlTick (inPhase 3 3 [0xF5, 0x09, 0x00])) (fun t => t.fsm == 2 && t.rxq == [0xF5, 0x09, 0x00] &&
      t.resyncCnt == 2) = true := by decide

/-- 95 S7: a type mismatch succeeds, CMD_STATUS = FAIL, STAT = 0x16, the leftover byte stays. -/
theorem test_tick_read_mismatch :
    nextHas (ctlTick (inPhase 3 4 [0xF5, 0x0C, 0x00, 0x03, 0x00, 0x00, 0x0F, 0xF5, 0x77]))
      (fun t => t.stat.toByte == 0x16 && t.cmdStatus == 0x01 && t.resStatus == 0x00 && t.resType == 0x0C &&
        t.rxq == [0x77] && t.fsm == 0) = true := by decide

/-- 95 X13: a bad checksum flushes the good frame behind it and keeps the rejected one in RXF. -/
theorem test_tick_read_invalid :
    nextHas (ctlTick (inPhase 3 4 ([0xF5, 0x09, 0x00, 0x04, 0x00, 0x00, 0x0C, 0xF5] ++ ack09.toList)))
      (fun t => t.stat.toByte == 0x0A && t.resStatus == 0x01 && t.cmdStatus == 0x01 && t.rxq == [] &&
        t.rxf == ⟨0xF5, 0x09, 0x00, 0x04, 0x00, 0x00, 0x0C, 0xF5⟩) = true := by decide

/-- 95 S3: an exhausted budget: SERIAL_TIMEOUT, STAT = 0x0A, RXQ flushed. -/
theorem test_tick_timeout :
    nextHas (ctlTick (inPhase 2 0 [0xF5, 0x09, 0x00]))
      (fun t => t.resStatus == 0x13 && t.cmdStatus == 0x13 && t.stat.toByte == 0x0A && t.rxq == []) = true := by decide

/-- 95 K1's last tick: a peeked marker ends "AB", STAT = 0x4A, the marker stays. -/
theorem test_tick_pkg_success :
    nextHas (ctlTick { inPhase 5 3 [0xF5, 0x99] with pkgBuf := [0x41, 0x42], pkgLen := 2 })
      (fun t => t.stat.toByte == 0x4A && t.resStatus == 0x00 && t.rxq == [0xF5, 0x99] && t.pkgRaw 0 == some 0xAB)
      = true := by decide

/-- 95 K5: lowercase characters are a success with PKG_HEX_OK = 0. -/
theorem test_tick_pkg_lowercase :
    nextHas (ctlTick { inPhase 5 3 [0xF5] with pkgBuf := [0x61, 0x62], pkgLen := 2 })
      (fun t => t.stat.toByte == 0x0A && t.resStatus == 0x00 && t.pkgLen == 2 && t.pkgRaw 0 == none) = true := by decide

/-- 95 K6: PKG_MAX_CHARS = 2 and a third character: FAIL, the package cleared, RXQ flushed. -/
theorem test_tick_pkg_overflow :
    nextHas (ctlTick { inPhase 5 3 [0x31, 0x32, 0xF5] with pkgBuf := [0x41, 0x42], pkgLen := 2 })
      (fun t => t.stat.toByte == 0x0A && t.resStatus == 0x01 && t.pkgLen == 0 && t.rxq == []) = true := by decide

/-- 10 R38: a character stored while BUSY is not seen by the host, and the completing tick shows it. -/
theorem test_pkg_hidden_until_done :
    nextHas (ctlTick (inPhase 5 3 [0x41]))
      (fun t => t.pkgLen == 1 && hostReg t 0x00F == 0x00 && hostReg t 0x100 == 0x00) = true ∧
    nextHas (ctlTick { inPhase 5 3 [0xF5] with pkgBuf := [0x41, 0x42], pkgLen := 2 })
      (fun t => hostReg t 0x00F == 0x02 && hostReg t 0x101 == 0x42 && hostReg t 0x200 == 0xAB) = true := by decide

/-- 95 S10: an empty payload keeps polling. -/
theorem test_tick_pkg_empty_payload :
    nextHas (ctlTick (inPhase 5 3 [0xF5])) (fun t => t.fsm == 5 && t.rxq == [0xF5] && t.outerCnt == 2) = true := by decide

/-- 10 R34: codes 6 and 7 stop the model. -/
theorem test_tick_illegal_phase : faultsWith (ctlTick (inPhase 6 0 [])) .fsmCode = true := by decide

/-! ### Host access, schedule and reset -/

/-- 95 H1: 0x14 sets ERR = 0x01 and nothing else. -/
theorem test_host_illegal :
    nextHas (step (coming [.hostWrite 0x000 0x14]))
      (fun t => t.err.toByte == 0x01 && t.stat.toByte == 0x00 && t.lastOp == 0x00 && t.fsm == 0) = true := by decide

/-- 95 H2: ERR = 0x07, write 0x05, ERR = 0x02. -/
theorem test_host_w1c :
    nextHas (step { coming [.hostWrite 0x002 0x05] with err := ⟨true, true, true⟩ }) (fun t => t.err.toByte == 0x02)
      = true := by decide

/-- 95 H3: unmapped indices read 0x00. -/
theorem test_host_unmapped : hostReg { State.reset with lastOp := 0x55 } 0x011 = 0x00 ∧ hostReg State.reset 0x3FF = 0x00 := by
  decide

/-- 95 H4: RES_STATUS is read-only. -/
theorem test_host_read_only :
    nextHas (step (coming [.hostWrite 0x00C 0x55])) (fun t => t.resStatus == 0x00 && t.err.toByte == 0x00) = true := by
  decide

/-- 95 X17, 70 R250: reset abandons a running exchange. -/
theorem test_reset :
    nextHas (step { inPhase 2 3 [0x01] with inputs := [.rst] })
      (fun t => t.fsm == 0 && t.rxq == [] && t.stat.toByte == 0x00 && t.outerCnt == 0 && t.sentOpcode == 0x00)
      = true := by decide

/-- 30 R102: `EXCHANGE o, a, b, c` expands to five writes. -/
theorem test_assemble :
    assemble [.exchange 0x09 0x00 0x00 0x00, .tick 2] =
      [.hostWrite 0x004 0x09, .hostWrite 0x005 0x00, .hostWrite 0x006 0x00, .hostWrite 0x007 0x00,
       .hostWrite 0x000 0x04, .tick, .tick] := by decide

/-! ### Witnesses: states and operands that meet the hypotheses of each statement, clause by clause -/

theorem witness_DecodeOfEncodeIsTheInstruction :
    (Instr.cmdFrame 0x09 0x00 0x00 0x01).wellFormed = true ∧ (Instr.dataPackage [0x41]).wellFormed = true := by decide

theorem witness_DecodedBytesAreTheEncoding :
    decode .ctrl [0x06, 0x99] = .ok (.checkTypeOp, [0x99]) ∧
    decode .rxPackage [0xF5, 0x41, 0xF5, 0xF5] = .ok (.dataPackage [0x41], [0xF5]) := ⟨rfl, rfl⟩

theorem witness_PlacedWordIsRunNext :
    decodeTableWord 8 0x01 = some .encodeOp ∧ decodeTableWord 64 0xF5011234560071F5 = some (.cmdFrame 0x01 0x12 0x34 0x56) ∧
    decodeTableWord 64 0xF500000000000000 = some (.ackFrame 0 0 0 0 0 0 0) ∧
    decodeTableWord 24 0xF541F5 = some (.dataPackage [0x41]) := by decide

/-- A valid frame, and the ends of the ranges of offsets and bits. -/
theorem witness_CodecLaws :
    (decodeAck ack09).valid = true ∧ (1 ≤ 1 ∧ 1 ≤ 6 ∧ 1 ≤ 6 ∧ 6 ≤ 6 ∧ 1 ≠ 6) ∧ (1 ≤ 5 ∧ 5 ≤ 5) ∧ 0 < 8 ∧ 7 < 8 := by decide

/-- EncodeCompletes, ChecksumCompletes, CheckTypeCompletes, ExchangeIsAccepted, ReadPkgIsAccepted: BUSY = 0. -/
theorem witness_idle_operations : State.reset.stat.busy = false := by decide

/-- Both clauses: 41 R153's ack, and the same with one checksum bit flipped. -/
theorem witness_DecodeCompletes :
    (let s := { State.reset with frameIn := ack09 }
    s.stat.busy = false ∧
      s.frameIn.o1 ^^^ s.frameIn.o2 ^^^ s.frameIn.o3 ^^^ s.frameIn.o4 ^^^ s.frameIn.o5 = s.frameIn.o6) ∧
    (let s := { State.reset with frameIn := { ack09 with o6 := 0x0D } }
    s.stat.busy = false ∧
      s.frameIn.o1 ^^^ s.frameIn.o2 ^^^ s.frameIn.o3 ^^^ s.frameIn.o4 ^^^ s.frameIn.o5 ≠ s.frameIn.o6) := by decide

theorem witness_RequestsWhileBusyAreRefused :
    (inPhase 1 0 []).stat.busy = true ∧ Instr.encodeOp.port = .ctrl ∧ Instr.checkTypeOp.port = .ctrl := by decide

/-- Illegal values at both ends of both fields, legal values at both ends while BUSY, and BUSY = 0. -/
theorem witness_CtrlWriteIsCheckedForAcceptance :
    (coming [.hostWrite 0x000 0x00]).inputs = .hostWrite 0x000 0x00 :: [] ∧
    (16 ≤ (0x11 : Byte).toNat ∧ (0x00 : Byte).toNat % 16 = 0 ∧ 6 < (0x07 : Byte).toNat % 16 ∧
      6 < (0xFF : Byte).toNat % 16) ∧
    ((0x01 : Byte).toNat < 16 ∧ 1 ≤ (0x01 : Byte).toNat % 16 ∧ (0x06 : Byte).toNat % 16 ≤ 6 ∧
      (inPhase 1 0 []).stat.busy = true) ∧
    (coming [.hostWrite 0x000 0x06]).stat.busy = false := by decide

theorem witness_CommandFrameLeavesTxq :
    ({ State.reset with txq := [0xF5, 0x01, 0x12, 0x34, 0x56, 0x00, 0x71, 0xF5, 0xF5] } : State).txq
      = [0xF5, 0x01, 0x12, 0x34, 0x56, 0x00, 0x01 ^^^ 0x12 ^^^ 0x34 ^^^ 0x56, 0xF5] ++ [0xF5] ∧
    ({ State.reset with txq := [0xF5, 0x09, 0x00, 0x00, 0x00, 0x00, 0x09, 0xF5] } : State).txq
      = [0xF5, 0x09, 0x00, 0x00, 0x00, 0x00, 0x09, 0xF5] ++ [] := by decide

/-- The empty TXQ, and a TXQ whose frame lacks its last byte. -/
theorem witness_UnqueuedCommandFrameStops :
    State.reset.txq.take 8 ≠ [0xF5, 0x01, 0x12, 0x34, 0x56, 0x00, 0x01 ^^^ 0x12 ^^^ 0x34 ^^^ 0x56, 0xF5] ∧
    ([0xF5, 0x09, 0x00, 0x00, 0x00, 0x00, 0x09] : List Byte).take 8
      ≠ [0xF5, 0x09, 0x00, 0x00, 0x00, 0x00, 0x09, 0xF5] := by decide

/-- RX_DEPTH = 8 with seven and with eight bytes. -/
theorem witness_LinePushAppendsOrDropsTheNewest :
    (coming [.linePush 0xF5]).inputs = .linePush 0xF5 :: [] ∧
    (inPhase 2 1 [1, 2, 3, 4, 5, 6, 7]).rxq.length < (inPhase 2 1 []).cfg.rxDepth ∧
    (inPhase 2 1 []).cfg.rxDepth ≤ (inPhase 2 1 [1, 2, 3, 4, 5, 6, 7, 8]).rxq.length := by decide

theorem witness_LineDrainTakesTheOldest :
    (coming [.txReady]).inputs = .txReady :: [] ∧ ({ coming [.txReady] with txq := [0xF5, 0x01] }).txq = 0xF5 :: [0x01] ∧
    (coming [.txReady]).txq = [] ∧ (coming [.txFrame]).inputs = .txFrame :: [] := by decide

/-- PKG_RAW's first and last index, read with no value; RES_TYPE and RES_Q2 with no valid response. -/
theorem witness_HostReadHasNoSideEffect :
    (isResultIndex (inPhase 2 1 []) 0x00C = true ∧ (inPhase 2 1 []).stat.busy = true ∧
      State.reset.stat.respValid = false ∧ (0x009 : RegIndex).toNat = 0x009 ∧ (0x00B : RegIndex).toNat = 0x00B) ∧
    (coming [.hostRead 0x200]).inputs = .hostRead 0x200 :: [] ∧
    (0x200 ≤ (0x27E : RegIndex).toNat ∧ (0x27E : RegIndex).toNat < 0x200 + State.reset.cfg.pkgMaxChars / 2 ∧
      State.reset.pkgRaw ((0x27E : RegIndex).toNat - 0x200) = none) := by decide

/-- The largest buffer, and the ends of every range of the map. -/
theorem witness_RegisterMapReads :
    State.reset.cfg.pkgMaxChars ≤ 255 ∧
    (0x018 ≤ (0x018 : RegIndex).toNat ∧ (0x01F : RegIndex).toNat ≤ 0x01F) ∧
    (0x020 ≤ (0x020 : RegIndex).toNat ∧ (0x027 : RegIndex).toNat ≤ 0x027) ∧
    (0x028 ≤ (0x028 : RegIndex).toNat ∧ (0x02F : RegIndex).toNat ≤ 0x02F) ∧
    (0x100 ≤ (0x1FE : RegIndex).toNat ∧ (0x1FE : RegIndex).toNat < 0x100 + State.reset.cfg.pkgMaxChars) ∧
    (0x200 ≤ (0x27E : RegIndex).toNat ∧ (0x27E : RegIndex).toNat < 0x200 + State.reset.cfg.pkgMaxChars / 2) := by decide

/-- The first unmapped index, those around each gap and the last; a read-only and an unmapped write. -/
theorem witness_UnmappedReadsZeroAndReadOnlyWritesAreIgnored :
    [0x011, 0x017, 0x030, 0x0FF, 0x1FF, 0x27F, 0x3FF].map (mappedIndex State.reset.cfg)
      = [false, false, false, false, false, false, false] ∧
    writableIndex 0x001 = false ∧ writableIndex 0x003 = false ∧ writableIndex 0x008 = false ∧ writableIndex 0x027 = false ∧
    writableIndex 0x030 = false ∧ (coming [.hostWrite 0x001 0xFF]).inputs = .hostWrite 0x001 0xFF :: [] := by decide

theorem witness_OperandWriteStoresAndNothingElse :
    (coming [.hostWrite 0x02F 0x5A]).inputs = .hostWrite 0x02F 0x5A :: [] ∧
    (0x004 ≤ (0x004 : RegIndex).toNat ∧ (0x007 : RegIndex).toNat ≤ 0x007) ∧
    (0x028 ≤ (0x028 : RegIndex).toNat ∧ (0x02F : RegIndex).toNat ≤ 0x02F) ∧ (0x004 : RegIndex) ≠ 0x02F := by decide

theorem witness_ErrIsWriteOneToClear : (coming [.hostWrite 0x002 0x05]).inputs = .hostWrite 0x002 0x05 :: [] := by decide

/-- The first reserved bit of ERR. -/
theorem witness_StatusAndErrorBits : 3 ≤ 3 ∧ (hostReg { State.reset with err := ⟨true, true, true⟩ } 0x002) = 0x07 := by
  decide

/-- An IDLE tick; an accepted EXCHANGE and READ_PKG leave IDLE; a timeout and a reset return to it. -/
theorem witness_IdleIsLeftAndEnteredOnlyAsStated :
    ((coming [.tick]).fsm = fsmIdle ∧ (coming [.tick]).inputs = .tick :: []) ∧
    (∃ t, step (coming [.hostWrite 0x000 0x04]) = .next t ∧ t.fsm ≠ fsmIdle) ∧
    (∃ t, step (coming [.hostWrite 0x000 0x05]) = .next t ∧ t.fsm ≠ fsmIdle) ∧
    (∃ t, step (inPhase fsmWait 0 []) = .next t ∧ (inPhase fsmWait 0 []).fsm ≠ fsmIdle ∧ t.fsm = fsmIdle) ∧
    (∃ t, step { inPhase fsmWait 1 [] with inputs := [.rst] } = .next t ∧ t.fsm = fsmIdle) :=
  ⟨by decide, ⟨_, rfl, by decide⟩, ⟨_, rfl, by decide⟩, ⟨_, rfl, by decide, by decide⟩, ⟨_, rfl, by decide⟩⟩

theorem witness_TxWaitTickLoadsTheBudget :
    (let s := { inPhase fsmTxWait 0 [] with inputs := [.tick] }
    s.fsm = fsmTxWait ∧ s.inputs = .tick :: [] ∧ s.txq = []) ∧
    ({ inPhase fsmTxWait 0 [] with txq := [0xF5] }).txq ≠ [] := by decide

/-- The last check of the budget, with eight and with seven bytes. -/
theorem witness_WaitTickCountsAndChecks :
    (let s := { inPhase fsmWait 1 ack09.toList with inputs := [.tick] }
    s.fsm = fsmWait ∧ s.inputs = .tick :: [] ∧ s.outerCnt ≠ 0 ∧ 8 ≤ s.rxq.length) ∧
    (inPhase fsmWait 1 [1, 2, 3, 4, 5, 6, 7]).rxq.length < 8 := by decide

theorem witness_ResyncTickDiscardsOrGoesBack :
    (let s := { inPhase fsmResync 1 [] with inputs := [.tick] }
    s.fsm = fsmResync ∧ s.inputs = .tick :: [] ∧ s.resyncCnt ≠ 0 ∧ s.rxq = []) ∧
    ((inPhase fsmResync 1 [0x00]).rxq = 0x00 :: [] ∧ (0x00 : Byte) ≠ 0xF5) ∧
    ((inPhase fsmResync 1 [0xF5, 1, 2, 3, 4, 5, 6]).rxq = 0xF5 :: [1, 2, 3, 4, 5, 6] ∧
      ([1, 2, 3, 4, 5, 6] : List Byte).length < 7) := by decide

theorem witness_ExchangeSucceedsWithoutFlush :
    let s := { inPhase fsmResync 1 (ack09.toList ++ [0x77]) with inputs := [.tick] }
    s.fsm = fsmResync ∧ s.inputs = .tick :: [] ∧ s.resyncCnt ≠ 0 ∧
    s.rxq = [0xF5, 0x09, 0x00, 0x05, 0x00, 0x00, 0x0C, 0xF5] ++ [0x77] ∧
    (0x09 : Byte) ^^^ 0x00 ^^^ 0x05 ^^^ 0x00 ^^^ 0x00 = 0x0C := by decide

theorem witness_ExchangeFailsOnChecksumAndFlushes :
    let s := { inPhase fsmResync 1 [0xF5, 0x09, 0x00, 0x04, 0x00, 0x00, 0x0C, 0xF5, 0xAA] with inputs := [.tick] }
    s.fsm = fsmResync ∧ s.inputs = .tick :: [] ∧ s.resyncCnt ≠ 0 ∧
    s.rxq = [0xF5, 0x09, 0x00, 0x04, 0x00, 0x00, 0x0C, 0xF5] ++ [0xAA] ∧
    (0x09 : Byte) ^^^ 0x00 ^^^ 0x04 ^^^ 0x00 ^^^ 0x00 ≠ 0x0C := by decide

theorem witness_ExchangeTimesOutAndFlushes :
    (let s := { inPhase fsmWait 0 ack09.toList with inputs := [.tick] }
    s.inputs = .tick :: [] ∧ s.fsm = fsmWait ∧ s.outerCnt = 0) ∧
    (let s := { inPhase fsmResync 0 ack09.toList with inputs := [.tick] }
    s.inputs = .tick :: [] ∧ s.fsm = fsmResync ∧ s.resyncCnt = 0) := by decide

theorem witness_PkgSyncTickConsumesOneByte :
    (let s := { inPhase fsmPkgSync 1 [] with inputs := [.tick] }
    s.fsm = fsmPkgSync ∧ s.inputs = .tick :: [] ∧ s.outerCnt ≠ 0 ∧ s.rxq = []) ∧
    (inPhase fsmPkgSync 1 [0xF5, 0x41]).rxq = 0xF5 :: [0x41] := by decide

/-- PKG_MAX_CHARS = 2: nothing to read, an empty payload, and the last character that fits. -/
theorem witness_PkgReadTickAccumulates :
    (let s := { inPhase fsmPkgRead 1 [] with inputs := [.tick] }
    s.fsm = fsmPkgRead ∧ s.inputs = .tick :: [] ∧ s.outerCnt ≠ 0 ∧ s.rxq = []) ∧
    ((inPhase fsmPkgRead 1 [0xF5]).rxq = 0xF5 :: [] ∧ (inPhase fsmPkgRead 1 [0xF5]).pkgLen = 0) ∧
    (let s := { inPhase fsmPkgRead 1 [0x42] with pkgLen := 1, pkgBuf := [0x41] }
    s.rxq = 0x42 :: [] ∧ (0x42 : Byte) ≠ 0xF5 ∧ s.pkgLen.toNat ≠ s.cfg.pkgMaxChars) := by decide

theorem witness_PkgSucceedsAtTheTrailingMarker :
    let s := { inPhase fsmPkgRead 1 [0xF5] with pkgLen := 1, pkgBuf := [0x41], inputs := [.tick] }
    s.fsm = fsmPkgRead ∧ s.inputs = .tick :: [] ∧ s.outerCnt ≠ 0 ∧ s.rxq = 0xF5 :: [] ∧ s.pkgLen ≠ 0 := by decide

theorem witness_PkgFailureFlushesAndClears :
    (let s := { inPhase fsmPkgSync 0 [0xF5] with inputs := [.tick] }
    s.fsm = fsmPkgSync ∧ s.inputs = .tick :: [] ∧ s.outerCnt = 0) ∧
    (inPhase fsmPkgRead 0 []).fsm = fsmPkgRead ∧
    (let s := { inPhase fsmPkgRead 1 [0x31, 0xF5] with pkgLen := 2, pkgBuf := [0x41, 0x42], inputs := [.tick] }
    s.fsm = fsmPkgRead ∧ s.inputs = .tick :: [] ∧ s.outerCnt ≠ 0 ∧ s.rxq = 0x31 :: [0xF5] ∧ (0x31 : Byte) ≠ 0xF5 ∧
      s.pkgLen.toNat = s.cfg.pkgMaxChars) := by decide

theorem witness_ResetInputRestoresEveryElement : (coming [.rst]).inputs = .rst :: [] := by decide

/-- EveryStepKeepsInv, EveryStepKeepsResultInv, NoStepStopsUnderTheInvariant: a running exchange that meets the invariants and
takes a step. -/
theorem witness_invariants :
    (inPhase fsmWait 4 []).Inv ∧ (inPhase fsmWait 4 []).ResultInv ∧ ∃ t, step (inPhase fsmWait 4 []) = .next t := by
  refine ⟨?_, ?_, _, rfl⟩
  · constructor <;> first | decide | (constructor <;> decide)
  · constructor <;> decide

theorem witness_OnlyAnIllegalPhaseStops :
    faultsWith (step (inPhase 7 0 [])) .fsmCode = true ∧
    (let s := { inPhase 6 0 [] with inputs := [.tick] }
    s.inputs = .tick :: [] ∧ 6 ≤ s.fsm.toNat) := by decide

theorem witness_StepRunsTheDecodedInstruction :
    ((coming [.hostWrite 0x000 0x04]).inputs = .hostWrite 0x000 0x04 :: [] ∧ decode .ctrl [0x04] = .ok (.exchangeOp, [])) ∧
    ((coming [.txFrame]).inputs = .txFrame :: [] ∧
      decode .tx (encodeCommand 0x01 0x12 0x34 0x56).toList = .ok (.cmdFrame 0x01 0x12 0x34 0x56, [])) ∧
    ((coming [.rxFrame ack09.toList]).inputs = .rxFrame ack09.toList :: [] ∧
      decode .rxFrame ack09.toList = .ok (.ackFrame 0x09 0x00 0x05 0x00 0x00 0x0C 0xF5, [])) ∧
    ((coming [.rxPackage [0xF5, 0x41, 0xF5]]).inputs = .rxPackage [0xF5, 0x41, 0xF5] :: [] ∧
      decode .rxPackage [0xF5, 0x41, 0xF5] = .ok (.dataPackage [0x41], [])) :=
  ⟨⟨rfl, rfl⟩, ⟨rfl, rfl⟩, ⟨rfl, rfl⟩, rfl, rfl⟩

theorem witness_StepsOfTheSchedule :
    State.reset.inputs = [] ∧ (coming [.tick]).inputs = .tick :: [] ∧
    (coming [.waitDone]).inputs = .waitDone :: [] := by decide

/-- Every bit set before the step, and a step that answers a next state. -/
theorem witness_ErrorBitsAreSticky :
    let s := { coming [.hostWrite 0x002 0x02] with err := ⟨true, true, true⟩, faultBits := ⟨true, true, true, true, true⟩ }
    ∃ t, step s = .next t ∧ s.err.illegalOp = true ∧ s.err.overlap = true ∧ s.err.rxOverrun = true ∧
      t.err.illegalOp = true ∧ t.err.overlap = false := ⟨_, rfl, by decide⟩

theorem witness_TxWaitHoldsUntilDrained :
    let s := { inPhase fsmTxWait 0 [] with txq := [0xF5] }
    s.stat.busy = true ∧ s.fsm = fsmTxWait ∧ s.txq ≠ [] ∧ ∃ t, step s = .next t := ⟨by decide, by decide, by decide, _, rfl⟩

/-- A PKG_READ tick that stores a character, and the ends of PKG_BUF (PKG_MAX_CHARS = 2). -/
theorem witness_ResultsWaitForCompletion :
    (∃ t, (inPhase fsmPkgRead 1 [0x41]).stat.busy = true ∧ step (inPhase fsmPkgRead 1 [0x41]) = .next t ∧
      t.stat.busy = true ∧ t.pkgLen ≠ 0) ∧
    isResultIndex (inPhase fsmPkgRead 1 []) 0x00F = true ∧ isResultIndex (inPhase fsmPkgRead 1 []) 0x101 = true ∧
    isResultIndex (inPhase fsmPkgRead 1 []) 0x200 = true := ⟨⟨_, by decide, rfl, by decide⟩, by decide⟩

/-- Each clause: a step that changes SENT_OPCODE, RES_TYPE (by DECODE and by RESYNC, with RXF), CKSUM. -/
theorem witness_WritersOfTheResultRegisters :
    (∃ t, step { coming [.hostWrite 0x000 0x04] with cmdOpcode := 0x09 } = .next t ∧ t.sentOpcode ≠ 0x00) ∧
    (∃ t, step { coming [.hostWrite 0x000 0x03] with frameIn := ack09 } = .next t ∧ t.resType ≠ 0x00) ∧
    (∃ t, step (inPhase fsmResync 1 ack09.toList) = .next t ∧ t.resType ≠ 0x00 ∧ t.rxf ≠ Frame.zero) ∧
    (∃ t, step { coming [.hostWrite 0x000 0x02] with frameIn := ack09 } = .next t ∧ t.cksum ≠ 0x00) ∧
    (¬ ∃ rest, (coming [.hostWrite 0x000 0x02]).inputs = .rst :: rest) :=
  ⟨⟨_, rfl, by decide⟩, ⟨_, rfl, by decide⟩, ⟨_, rfl, by decide⟩, ⟨_, rfl, by decide⟩, by simp [coming]⟩

/-- A block with B = 1, so four ticks are enough. -/
theorem witness_ExchangeEndsWithinTheSquaredBudget :
    let s := { inPhase fsmWait 1 [0x00] with
      cfg := { smallCfg with budgetTicks := 1 }, inputs := [.tick, .linePush 0xF5, .tick, .hostRead 0x001, .tick, .tick] }
    s.Inv ∧ { s with fsm := fsmResync }.Inv ∧ (s.fsm = fsmWait ∨ s.fsm = fsmResync) ∧
    (∀ e ∈ s.inputs, e.isPlain = true) ∧ (s.cfg.budgetTicks + 1) ^ 2 ≤ tickCount s.inputs := by
  refine ⟨?_, ?_, by decide, by decide, by decide⟩
  · constructor <;> first | decide | (constructor <;> decide)
  · constructor <;> first | decide | (constructor <;> decide)

theorem witness_ReadPkgEndsWithinTheBudget :
    let s := { inPhase fsmPkgSync 1 [0x00] with
      cfg := { smallCfg with budgetTicks := 1 }, inputs := [.tick, .linePush 0xF5, .tick] }
    s.Inv ∧ (s.fsm = fsmPkgSync ∨ s.fsm = fsmPkgRead) ∧ (∀ e ∈ s.inputs, e.isPlain = true) ∧
    s.cfg.budgetTicks + 1 ≤ tickCount s.inputs := by
  refine ⟨?_, by decide, by decide, by decide⟩
  constructor <;> first | decide | (constructor <;> decide)

theorem witness_FewerThanEightBytesTimeOut :
    let s := inPhase fsmWait 4 [0xF5, 0x09, 0x00, 0x05, 0x00, 0x00, 0x0C]
    s.fsm = fsmWait ∧ s.inputs = [] ∧ s.rxq.length < 8 := by decide

theorem witness_AckIsReadInThreeTicks :
    (let s := { inPhase fsmTxWait 0 [] with inputs := [.rxFrame ack09.toList, .tick, .tick, .tick] }
    s.cfg.Valid ∧ s.fsm = fsmTxWait ∧ s.txq = [] ∧ s.rxq = [] ∧
      s.inputs = .rxFrame [0xF5, 0x09, 0x00, 0x05, 0x00, 0x00, 0x0C, 0xF5] :: .tick :: .tick :: .tick :: []) ∧
    (0x09 : Byte) ^^^ 0x00 ^^^ 0x05 ^^^ 0x00 ^^^ 0x00 = 0x0C ∧
    (0x09 : Byte) ^^^ 0x00 ^^^ 0x05 ^^^ 0x00 ^^^ 0x00 ≠ 0x0D := by
  refine ⟨⟨?_, by decide⟩, by decide⟩
  constructor <;> decide

/-- B = 4: three bytes of garbage, the most that leaves a tick for the frame. -/
theorem witness_GarbageIsSkippedToTheFrame :
    let s := inPhase fsmWait 4 ([0x00, 0x12, 0x34] ++ ack09.toList ++ [0x77])
    s.fsm = fsmWait ∧ s.inputs = [] ∧ s.outerCnt ≠ 0 ∧ (0xF5 : Byte) ∉ ([0x00, 0x12, 0x34] : List Byte) ∧
    ([0x00, 0x12, 0x34] : List Byte).length < s.cfg.budgetTicks ∧
    s.rxq = [0x00, 0x12, 0x34] ++ [0xF5, 0x09, 0x00, 0x05, 0x00, 0x00, 0x0C, 0xF5] ++ [0x77] ∧
    (0x09 : Byte) ^^^ 0x00 ^^^ 0x05 ^^^ 0x00 ^^^ 0x00 = 0x0C := by decide

/-- PKG_MAX_CHARS = 2 and a budget that is just enough: one byte of garbage, two characters. -/
theorem witness_PackageIsReadFromTheStream :
    let s := inPhase fsmPkgSync 5 [0x33, 0xF5, 0x41, 0x42, 0xF5, 0x99]
    s.cfg.Valid ∧ s.fsm = fsmPkgSync ∧ s.inputs = [] ∧ s.pkgLen = 0 ∧ s.pkgBuf = [] ∧
    (0xF5 : Byte) ∉ ([0x33] : List Byte) ∧ (0xF5 : Byte) ∉ ([0x41, 0x42] : List Byte) ∧ ([0x41, 0x42] : List Byte) ≠ [] ∧
    ([0x41, 0x42] : List Byte).length ≤ s.cfg.pkgMaxChars ∧
    ([0x33] : List Byte).length + ([0x41, 0x42] : List Byte).length + 2 ≤ s.outerCnt ∧
    s.rxq = [0x33] ++ 0xF5 :: ([0x41, 0x42] ++ 0xF5 :: [0x99]) := by
  refine ⟨?_, by decide⟩
  constructor <;> decide

/-- 42 R189's package: "AB12" is the raw bytes AB 12. -/
theorem witness_PkgRawGivesTheRawBytes :
    let s := { State.reset with
      pkgBuf := [0x41, 0x42, 0x31, 0x32], pkgLen := 4, stat := { State.reset.stat with pkgHexOk := true } }
    ([0xAB, 0x12] : List Byte) ≠ [] ∧ 2 * ([0xAB, 0x12] : List Byte).length ≤ 255 ∧ s.pkgBuf = hexEncode [0xAB, 0x12] ∧
    s.pkgLen = BitVec.ofNat 8 (2 * ([0xAB, 0x12] : List Byte).length) ∧ s.stat.pkgHexOk = true := by decide

/-- A status byte outside the enumeration. -/
theorem witness_ResultViews :
    (0x02 : Byte) ∉ ([0x00, 0x01, 0x04, 0x05, 0x07, 0x08, 0x0A, 0x10, 0x11, 0x12, 0x13, 0x14, 0x18] : List Byte) := by decide

end Sys2Proof.Tests
end

section
/-! SUPPORT. The block's invariant: every register update, accepted request, tick and step keeps `State.Inv`. A lemma writes
`{ h with … }`: the clauses it names are the ones the update can touch, every other one is h's own. -/

namespace Sys2Proof.Machine

open Sys2Proof

variable {s t : State}

/-! ### What the invariant says of a phase -/

/-- R23: while BUSY = 0 no operation is in progress. -/
theorem State.Inv.fsm_idle (h : s.Inv) (hb : s.stat.busy = false) : s.fsm = fsmIdle := by
  by_contra hf
  simp [h.busyIff.2 hf] at hb

/-- R37, R142: outside TX_WAIT nothing is left for the line. -/
theorem State.Inv.txq_nil (h : s.Inv) (hf : s.fsm ≠ fsmTxWait) : s.txq = [] :=
  by_contra fun hq => hf (h.txqPhase hq)

theorem State.Inv.txq_nil_of_not_busy (h : s.Inv) (hb : s.stat.busy = false) : s.txq = [] :=
  h.txq_nil (by rw [h.fsm_idle hb]; decide)

/-- R33: while BUSY = 0, PKG_HEX_OK obeys its equation. -/
theorem State.Inv.hex_of_not_busy (h : s.Inv) (hb : s.stat.busy = false) : s.stat.pkgHexOk = s.pkgIsHex :=
  h.hexRule (by rw [h.fsm_idle hb]; decide)

/-! ### Updates of one element -/

theorem State.Inv.with_inputs (h : s.Inv) (rest : List Input) : State.Inv { s with inputs := rest } := { h with }

theorem State.Inv.with_rxf (h : s.Inv) (f : Frame) : State.Inv { s with rxf := f } := { h with }

theorem State.Inv.with_txf (h : s.Inv) (hq : s.txq = []) (f : Frame) : State.Inv { s with txf := f } :=
  { h with txqTail := hq ▸ List.nil_suffix }

theorem State.Inv.with_rxq (h : s.Inv) {q : List Byte} (hq : q.length ≤ s.cfg.rxDepth) : State.Inv { s with rxq := q } :=
  { h with rxqBound := hq }

theorem State.Inv.with_outerCnt (h : s.Inv) {n : Nat} (hn : n ≤ s.cfg.budgetTicks) : State.Inv { s with outerCnt := n } :=
  { h with outerBound := hn }

theorem State.Inv.with_resyncCnt (h : s.Inv) {n : Nat} (hn : n ≤ s.cfg.budgetTicks) :
    State.Inv { s with resyncCnt := n } :=
  { h with resyncBound := hn }

theorem State.Inv.dec_outerCnt (h : s.Inv) : State.Inv { s with outerCnt := s.outerCnt - 1 } :=
  h.with_outerCnt ((Nat.sub_le ..).trans h.outerBound)

theorem State.Inv.dec_resyncCnt (h : s.Inv) : State.Inv { s with resyncCnt := s.resyncCnt - 1 } :=
  h.with_resyncCnt ((Nat.sub_le ..).trans h.resyncBound)

/-- R72: popping the oldest bytes keeps RXQ's bound. -/
theorem State.Inv.pop (h : s.Inv) {front rest : List Byte} (hq : s.rxq = front ++ rest) :
    State.Inv { s with rxq := rest } :=
  h.with_rxq <| calc
    rest.length ≤ s.rxq.length := by simp [hq]
    _ ≤ s.cfg.rxDepth := h.rxqBound

/-- R142 to R144: EXCHANGE moves to WAIT or RESYNC once TXQ is empty. -/
theorem State.Inv.enter_wait_or_resync (h : s.Inv)
    (hf : s.fsm = fsmTxWait ∨ s.fsm = fsmWait ∨ s.fsm = fsmResync) (hq : s.txq = [])
    {p : FsmCode} (hp : p = fsmWait ∨ p = fsmResync) : State.Inv { s with fsm := p } := by
  obtain ⟨hbusy, hread⟩ : s.fsm ≠ fsmIdle ∧ s.fsm ≠ fsmPkgRead := by
    rcases hf with hf | hf | hf <;> rw [hf] <;> decide
  obtain ⟨hlegal, hidle, hsync', hread'⟩ : p.toNat ≤ 5 ∧ p ≠ fsmIdle ∧ p ≠ fsmPkgSync ∧ p ≠ fsmPkgRead := by
    rcases hp with rfl | rfl <;> decide
  exact
    { h with
      fsmLegal := hlegal
      busyIff := iff_of_true (h.busyIff.2 hbusy) hidle
      txqPhase := fun hne => absurd hq hne
      emptyWhileSyncing := fun hp => absurd hp hsync'
      hexWhileReading := fun hp => (hp.elim hsync' hread').elim
      hexRule := fun _ => h.hexRule hread }

/-! ### Reset and the LINE's steps -/

theorem resetBlock_inv (hc : s.cfg.Valid) : (resetBlock s).Inv where
  cfgValid := hc
  fsmLegal := (by decide : (0 : FsmCode).toNat ≤ 5)
  busyIff := (by decide : false = true ↔ (0 : FsmCode) ≠ fsmIdle)
  busyNotDone := fun _ => rfl
  outerBound := Nat.zero_le _
  resyncBound := Nat.zero_le _
  rxqBound := Nat.zero_le _
  txqPhase := fun hne => absurd rfl hne
  txqTail := List.nil_suffix
  pkgLenIs := rfl
  pkgLenBound := Nat.zero_le _
  pkgNoMarker := List.not_mem_nil
  emptyWhileSyncing := fun _ => rfl
  hexWhileReading := fun _ => rfl
  hexRule := fun _ => rfl
  illegalRecorded := nofun
  overlapRecorded := nofun
  overrunRecorded := nofun

/-- R71: a push never takes RXQ over its depth, and an overrun is recorded. -/
theorem linePush_inv (h : s.Inv) (b : Byte) : (linePush b s).Inv := by
  unfold linePush
  split
  · next hlt => exact h.with_rxq (by simpa using hlt)
  · exact { h with overrunRecorded := fun _ => rfl }

theorem linePushAll_inv (bs : List Byte) (h : s.Inv) : (linePushAll bs s).Inv := by
  induction bs generalizing s with
  | nil => exact h
  | cons b bs ih => exact ih (linePush_inv h b)

/-- R73: what is left in TXQ is still a tail of TXF. -/
theorem lineDrain_inv (h : s.Inv) : (lineDrain s).Inv :=
  { h with
    txqPhase := fun hne => h.txqPhase fun hq => hne (by simp [hq])
    txqTail := (List.tail_suffix _).trans h.txqTail }

theorem lineDrainN_inv (n : Nat) (h : s.Inv) : (lineDrainN n s).Inv := by
  induction n generalizing s with
  | zero => exact h
  | succ n ih => exact ih (lineDrain_inv h)

/-! ### The host's steps -/

theorem hostRead_inv (h : s.Inv) (i : RegIndex) : (hostRead i s).Inv := { h with }

/-- R64: a write can only clear ERR bits, so every bit that stands after it stood before. -/
theorem hostStore_err_le (i : RegIndex) (v : Byte) (s : State) :
    ((hostStore i v s).err.illegalOp = true → s.err.illegalOp = true) ∧
      ((hostStore i v s).err.overlap = true → s.err.overlap = true) ∧
      ((hostStore i v s).err.rxOverrun = true → s.err.rxOverrun = true) := by
  rw [hostStore_err]
  split
  · simp +contextual [Err.clear]
  · exact ⟨id, id, id⟩

theorem hostStore_inv (h : s.Inv) (i : RegIndex) (v : Byte) : (hostStore i v s).Inv := by
  obtain ⟨hill, hov, hrx⟩ := hostStore_err_le i v s
  rw [hostStore_eq]
  exact
    { h with
      illegalRecorded := fun he => h.illegalRecorded (hill he)
      overlapRecorded := fun he => h.overlapRecorded (hov he)
      overrunRecorded := fun he => h.overrunRecorded (hrx he) }

theorem flagOverlap_inv (h : s.Inv) : (flagOverlap s).Inv := { h with overlapRecorded := fun _ => rfl }

theorem flagIllegal_inv (h : s.Inv) : (flagIllegal s).Inv := { h with illegalRecorded := fun _ => rfl }

theorem requestIllegal_inv (h : s.Inv) : (requestIllegal s).Inv := by
  unfold requestIllegal
  split
  · exact flagOverlap_inv (flagIllegal_inv h)
  · exact flagIllegal_inv h

/-! ### Accepted operations (BUSY = 0) -/

theorem completeNow_inv (h : s.Inv) (hb : s.stat.busy = false) (op : Byte) : (completeNow op s).Inv :=
  { h with busyNotDone := fun hb' => absurd (hb.symm.trans hb') Bool.false_ne_true }

theorem encodeEffect_inv (h : s.Inv) (hb : s.stat.busy = false) : (encodeEffect s).Inv :=
  completeNow_inv (h.with_txf (h.txq_nil_of_not_busy hb) (encodeCommand s.cmdOpcode s.cmdP1 s.cmdP2 s.cmdP3)) hb 0x01

theorem checksumEffect_inv (h : s.Inv) (hb : s.stat.busy = false) : (checksumEffect s).Inv :=
  { completeNow_inv h hb 0x02 with }

theorem decodeEffect_inv (h : s.Inv) (hb : s.stat.busy = false) : (decodeEffect s).Inv := by
  rw [decodeEffect_eq]
  exact { completeNow_inv h hb 0x03 with }

theorem checkTypeEffect_inv (h : s.Inv) (hb : s.stat.busy = false) : (checkTypeEffect s).Inv :=
  { completeNow_inv h hb 0x06 with }

/-- R141: TXQ was empty, so after the write it is the whole of TXF. -/
theorem exchangeAccept_inv (h : s.Inv) (hb : s.stat.busy = false) : (exchangeAccept s).Inv :=
  { h with
    fsmLegal := (by decide : fsmTxWait.toNat ≤ 5)
    busyIff := iff_of_true rfl (by decide : fsmTxWait ≠ fsmIdle)
    busyNotDone := fun _ => rfl
    rxqBound := Nat.zero_le _
    txqPhase := fun _ => rfl
    txqTail := by simp [exchangeAccept, h.txq_nil_of_not_busy hb]
    emptyWhileSyncing := fun hp => absurd hp (by decide : fsmTxWait ≠ fsmPkgSync)
    hexWhileReading := fun hp => absurd hp (by decide : ¬ (fsmTxWait = fsmPkgSync ∨ fsmTxWait = fsmPkgRead))
    hexRule := fun _ => h.hex_of_not_busy hb }

/-- The cleared package meets every clause about packages, in any phase. -/
theorem pkgClear_inv (h : s.Inv) : (pkgClear s).Inv :=
  { h with
    pkgLenIs := rfl
    pkgLenBound := Nat.zero_le _
    pkgNoMarker := List.not_mem_nil
    emptyWhileSyncing := fun _ => rfl
    hexWhileReading := fun _ => rfl
    hexRule := fun _ => rfl }

theorem readPkgAccept_inv (h : s.Inv) (hb : s.stat.busy = false) : (readPkgAccept s).Inv :=
  { pkgClear_inv h with
    fsmLegal := (by decide : fsmPkgSync.toNat ≤ 5)
    busyIff := iff_of_true rfl (by decide : fsmPkgSync ≠ fsmIdle)
    busyNotDone := fun _ => rfl
    outerBound := le_rfl
    txqPhase := fun hne => absurd (h.txq_nil_of_not_busy hb) hne
    emptyWhileSyncing := fun _ => rfl
    hexWhileReading := fun _ => rfl
    hexRule := fun _ => rfl }

/-! ### Completions (R223) -/

/-- R223: a completion leaves for IDLE, so it needs an empty TXQ and has to leave PKG_HEX_OK at its equation's value. -/
theorem finish_inv (h : s.Inv) (hq : s.txq = []) {hex : Bool} (hhex : hex = s.pkgIsHex) (st : Byte) (loc : Bool) :
    (finish st loc { s with stat.pkgHexOk := hex }).Inv :=
  { h with
    fsmLegal := (by decide : fsmIdle.toNat ≤ 5)
    busyIff := iff_of_false Bool.false_ne_true fun hne => hne rfl
    busyNotDone := nofun
    txqPhase := fun hne => absurd hq hne
    emptyWhileSyncing := fun hp => absurd hp (by decide : fsmIdle ≠ fsmPkgSync)
    hexWhileReading := fun hp => absurd hp (by decide : ¬ (fsmIdle = fsmPkgSync ∨ fsmIdle = fsmPkgRead))
    hexRule := fun _ => hhex }

theorem exchangeSuccess_inv (h : s.Inv) (hf : s.fsm = fsmResync) (a : DecodedAck) : (exchangeSuccess a s).Inv := by
  have hq : s.txq = [] := h.txq_nil (by rw [hf]; decide)
  have hhex : s.stat.pkgHexOk = s.pkgIsHex := h.hexRule (by rw [hf]; decide)
  exact { finish_inv h hq hhex a.status false with }

theorem exchangeFail_inv (h : s.Inv) (hf : s.fsm = fsmWait ∨ s.fsm = fsmResync) (st : Byte) : (exchangeFail st s).Inv := by
  have hq : s.txq = [] := h.txq_nil (by rcases hf with hf | hf <;> rw [hf] <;> decide)
  have hhex : s.stat.pkgHexOk = s.pkgIsHex := h.hexRule (by rcases hf with hf | hf <;> rw [hf] <;> decide)
  exact { finish_inv h hq hhex st true with rxqBound := Nat.zero_le _ }

theorem pkgSuccess_inv (h : s.Inv) (hf : s.fsm = fsmPkgRead) : (pkgSuccess s).Inv :=
  { finish_inv h (h.txq_nil (by rw [hf]; decide)) rfl statusSuccess true with }

theorem pkgFail_inv (h : s.Inv) (hf : s.fsm = fsmPkgSync ∨ s.fsm = fsmPkgRead) (st : Byte) : (pkgFail st s).Inv := by
  have hq : s.txq = [] := h.txq_nil (by rcases hf with hf | hf <;> rw [hf] <;> decide)
  exact { finish_inv (s := pkgClear s) (pkgClear_inv h) hq (hex := false) rfl st true with rxqBound := Nat.zero_le _ }

/-! ### READ_PKG's ticks -/

/-- R182: the leading marker opens a package that is still empty. -/
theorem State.Inv.enter_pkgRead (h : s.Inv) (hf : s.fsm = fsmPkgSync) : State.Inv { s with fsm := fsmPkgRead } :=
  { h with
    fsmLegal := (by decide : fsmPkgRead.toNat ≤ 5)
    busyIff := iff_of_true (h.busyIff.2 (by rw [hf]; decide)) (by decide : fsmPkgRead ≠ fsmIdle)
    txqPhase := fun hne => absurd (h.txq_nil (by rw [hf]; decide)) hne
    emptyWhileSyncing := fun hp => absurd hp (by decide : fsmPkgRead ≠ fsmPkgSync)
    hexWhileReading := fun _ => h.hexWhileReading (.inl hf)
    hexRule := fun hne => absurd rfl hne }

/-- R33, R183: a character goes to the first free index, and PKG_LEN counts it without wrapping, the capacity being at most 255. -/
theorem pkgAppend_inv (h : s.Inv) (hf : s.fsm = fsmPkgRead) {c : Byte} (hc : c ≠ marker)
    (hroom : s.pkgLen.toNat ≠ s.cfg.pkgMaxChars) : (pkgAppend c s).Inv := by
  have hbuf : writeAt s.pkgBuf s.pkgLen.toNat c = s.pkgBuf ++ [c] := by rw [h.pkgLenIs, writeAt_length]
  have hlen := h.pkgLenIs
  have hlt : s.pkgBuf.length < s.cfg.pkgMaxChars := lt_of_le_of_ne h.pkgLenBound (hlen ▸ hroom)
  have hcap := h.cfgValid.pkgHigh
  exact
    { h with
      pkgLenIs := by
        show (s.pkgLen + 1).toNat = (writeAt s.pkgBuf s.pkgLen.toNat c).length
        rw [hbuf, List.length_append, ← hlen]
        exact BitVec.toNat_add_of_lt (by simp; omega)
      pkgLenBound := by
        show (writeAt s.pkgBuf s.pkgLen.toNat c).length ≤ s.cfg.pkgMaxChars
        simpa [hbuf] using hlt
      pkgNoMarker := by
        show marker ∉ writeAt s.pkgBuf s.pkgLen.toNat c
        simp [hbuf, h.pkgNoMarker, hc.symm]
      emptyWhileSyncing := fun hp => absurd (hf.symm.trans hp) (by decide)
      hexRule := fun hp => absurd hf hp }

/-! ### Every tick, every agent's step, every step -/

theorem TickEffect.keeps_inv (he : TickEffect s t) (h : s.Inv) : t.Inv := by
  cases he with
  | idle hf => exact h
  | txDone hf hq =>
    exact (h.with_outerCnt le_rfl).enter_wait_or_resync (.inl hf) hq (.inl rfl)
  | txWaiting hf hq => exact h
  | waitTimeout hf h0 => exact exchangeFail_inv h (.inl hf) _
  | waitReady hf h0 hn =>
    have hq : s.txq = [] := h.txq_nil (by rw [hf]; decide)
    exact (h.dec_outerCnt.with_resyncCnt le_rfl).enter_wait_or_resync (.inr (.inl hf)) hq (.inr rfl)
  | waitMore hf h0 hn => exact h.dec_outerCnt
  | resyncTimeout hf h0 => exact exchangeFail_inv h (.inr hf) _
  | resyncEmpty hf h0 hq => exact h.dec_resyncCnt
  | @resyncDiscard hf h0 b rest hq hb => exact h.dec_resyncCnt.pop (front := [b]) hq
  | resyncBack hf h0 _ hn =>
    have hq : s.txq = [] := h.txq_nil (by rw [hf]; decide)
    exact h.dec_resyncCnt.enter_wait_or_resync (.inr (.inr hf)) hq (.inl rfl)
  | readValid hf h0 hq hm hv => exact exchangeSuccess_inv ((h.dec_resyncCnt.pop hq).with_rxf _) hf _
  | readInvalid hf h0 hq hm hv => exact exchangeFail_inv ((h.dec_resyncCnt.pop hq).with_rxf _) (.inr hf) _
  | syncTimeout hf h0 => exact pkgFail_inv h (.inl hf) _
  | syncEmpty hf h0 hq => exact h.dec_outerCnt
  | syncMarker hf h0 hq => exact (h.dec_outerCnt.pop (front := [marker]) hq).enter_pkgRead hf
  | @syncDiscard hf h0 b rest hq hb => exact h.dec_outerCnt.pop (front := [b]) hq
  | readTimeout hf h0 => exact pkgFail_inv h (.inr hf) _
  | readEmpty hf h0 hq => exact h.dec_outerCnt
  | pkgDone hf h0 hq hl => exact pkgSuccess_inv h.dec_outerCnt hf
  | pkgEmptyPayload hf h0 hq hl => exact h.dec_outerCnt
  | @pkgFull hf h0 c rest hq hc hl => exact pkgFail_inv (h.dec_outerCnt.pop (front := [c]) hq) (.inr hf) _
  | @pkgChar hf h0 c rest hq hc hl => exact pkgAppend_inv (h.dec_outerCnt.pop (front := [c]) hq) hf hc hl

theorem AgentEffect.keeps_inv {e : Input} (he : AgentEffect e s t) (h : s.Inv) : t.Inv := by
  cases he with
  | tick _ ht => exact ht.keeps_inv h
  | reset => exact resetBlock_inv h.cfgValid
  | read => exact hostRead_inv h _
  | store => exact hostStore_inv h _ _
  | illegal => exact requestIllegal_inv h
  | overlap => exact flagOverlap_inv h
  | encode _ hb => exact encodeEffect_inv h hb
  | checksum _ hb => exact checksumEffect_inv h hb
  | decode _ hb => exact decodeEffect_inv h hb
  | exchange _ hb => exact exchangeAccept_inv h hb
  | readPkg _ hb => exact readPkgAccept_inv h hb
  | checkType _ hb => exact checkTypeEffect_inv h hb
  | push _ bs => exact linePushAll_inv bs h
  | drain _ n => exact lineDrainN_inv n h

theorem StepEffect.keeps_inv (he : StepEffect s t) (h : s.Inv) : t.Inv := by
  cases he with
  | free _ ht => exact ht.keeps_inv h
  | waiting _ _ ht => exact ht.keeps_inv h
  | waited => exact h.with_inputs _
  | agent _ _ ha => exact ha.keeps_inv (h.with_inputs _)

/-- Settles O42: `StepEffect` lists what a step can do, and each of its cases keeps the invariant. -/
theorem everyStepKeepsInv : Obligations.EveryStepKeepsInv :=
  fun _ _ h hs => (step_cases hs).keeps_inv h

/-- R5: the parameters of State.reset are within their bounds. -/
theorem configReference_valid : Config.reference.Valid := by
  constructor <;> decide

/-- R204: at reset no response is valid and both status registers are 0x00. -/
theorem reset_resultInv : State.reset.ResultInv := by
  constructor <;> decide

/-- Settles O41: the reset state is what the reset input leaves of itself, with legal parameters. -/
theorem resetMeetsTheInvariants : Obligations.ResetMeetsTheInvariants :=
  ⟨resetBlock_inv (s := State.reset) configReference_valid, reset_resultInv⟩

end Sys2Proof.Machine
end

section
/-! SUPPORT. ERR is sticky, the fault record is never cleared and the parameters stay: said once of each shared operation. -/

namespace Sys2Proof.Machine

open Sys2Proof

variable {s t : State}

/-! ### The orders in which ERR and the fault record grow -/

/-- R24: every bit of a stands in b. -/
structure Err.Le (a b : Err) : Prop where
  illegalOp : a.illegalOp = true → b.illegalOp = true
  overlap : a.overlap = true → b.overlap = true
  rxOverrun : a.rxOverrun = true → b.rxOverrun = true

/-- R221: every bit of a stands in b. -/
structure FaultBits.Le (a b : FaultBits) : Prop where
  illegalOp : a.illegalOp = true → b.illegalOp = true
  overlap : a.overlap = true → b.overlap = true
  rxOverrun : a.rxOverrun = true → b.rxOverrun = true
  pkgRawRead : a.pkgRawRead = true → b.pkgRawRead = true
  staleRead : a.staleRead = true → b.staleRead = true

/-- What an event may do to ERR, the fault record and the parameters: set bits of the first two, and leave the third. -/
structure State.Records (s t : State) : Prop where
  err : s.err.Le t.err
  faultBits : s.faultBits.Le t.faultBits
  cfg : t.cfg = s.cfg

theorem Err.Le.refl (a : Err) : a.Le a := ⟨id, id, id⟩

theorem Err.Le.trans {a b c : Err} (hab : a.Le b) (hbc : b.Le c) : a.Le c where
  illegalOp := hbc.illegalOp ∘ hab.illegalOp
  overlap := hbc.overlap ∘ hab.overlap
  rxOverrun := hbc.rxOverrun ∘ hab.rxOverrun

theorem FaultBits.Le.refl (a : FaultBits) : a.Le a := ⟨id, id, id, id, id⟩

theorem FaultBits.Le.trans {a b c : FaultBits} (hab : a.Le b) (hbc : b.Le c) : a.Le c where
  illegalOp := hbc.illegalOp ∘ hab.illegalOp
  overlap := hbc.overlap ∘ hab.overlap
  rxOverrun := hbc.rxOverrun ∘ hab.rxOverrun
  pkgRawRead := hbc.pkgRawRead ∘ hab.pkgRawRead
  staleRead := hbc.staleRead ∘ hab.staleRead

/-- An update of any other element records nothing. -/
theorem State.Records.of_eq (he : t.err = s.err) (hb : t.faultBits = s.faultBits) (hc : t.cfg = s.cfg) : s.Records t where
  err := he ▸ .refl _
  faultBits := hb ▸ .refl _
  cfg := hc

theorem State.Records.refl (s : State) : s.Records s := .of_eq rfl rfl rfl

theorem State.Records.trans {u : State} (hst : s.Records t) (htu : t.Records u) : s.Records u where
  err := hst.err.trans htu.err
  faultBits := hst.faultBits.trans htu.faultBits
  cfg := htu.cfg.trans hst.cfg

/-! ### The events that write ERR or the record -/

theorem flagOverlap_records (s : State) : s.Records (flagOverlap s) where
  err := { Err.Le.refl s.err with overlap := fun _ => rfl }
  faultBits := { FaultBits.Le.refl s.faultBits with overlap := fun _ => rfl }
  cfg := rfl

theorem flagIllegal_records (s : State) : s.Records (flagIllegal s) where
  err := { Err.Le.refl s.err with illegalOp := fun _ => rfl }
  faultBits := { FaultBits.Le.refl s.faultBits with illegalOp := fun _ => rfl }
  cfg := rfl

theorem requestIllegal_records (s : State) : s.Records (requestIllegal s) := by
  unfold requestIllegal
  split
  · exact (flagIllegal_records s).trans (flagOverlap_records _)
  · exact flagIllegal_records s

theorem linePush_records (b : Byte) (s : State) : s.Records (linePush b s) := by
  unfold linePush
  split
  · exact .of_eq rfl rfl rfl
  · exact
      { err := { Err.Le.refl s.err with rxOverrun := fun _ => rfl }
        faultBits := { FaultBits.Le.refl s.faultBits with rxOverrun := fun _ => rfl }
        cfg := rfl }

theorem linePushAll_records (bs : List Byte) (s : State) : s.Records (linePushAll bs s) := by
  induction bs generalizing s with
  | nil => exact .refl s
  | cons b bs ih => exact (linePush_records b s).trans (ih _)

theorem hostRead_records (i : RegIndex) (s : State) : s.Records (hostRead i s) where
  err := .refl _
  faultBits :=
    { FaultBits.Le.refl s.faultBits with
      pkgRawRead := fun h => by simp [h]
      staleRead := fun h => by simp [h] }
  cfg := rfl

/-- R64: a host write to ERR clears what it names; a write to any other index records nothing. -/
theorem hostStore_records {i : RegIndex} (hi : i ≠ 0x002) (v : Byte) (s : State) : s.Records (hostStore i v s) := by
  refine .of_eq ?_ ?_ ?_
  · rw [hostStore_err, if_neg hi]
  · rw [hostStore_eq]
  · rw [hostStore_eq]

/-! ### Every tick, every agent's step, every step -/

/-- No branch of a tick writes ERR, the record or the parameters. -/
theorem TickEffect.records (h : TickEffect s t) : s.Records t := by
  cases h <;> exact .of_eq rfl rfl rfl

/-- Every agent's step sets bits only, but for reset and a write to ERR. -/
theorem AgentEffect.records {e : Input} (h : AgentEffect e s t) :
    s.Records t ∨ (e = .rst ∧ t = resetBlock s) ∨ ∃ v, e = .hostWrite 0x002 v ∧ t = { s with err := s.err.clear v } := by
  cases h with
  | tick _ ht => exact .inl ht.records
  | reset he => exact .inr (.inl ⟨he, rfl⟩)
  | read => exact .inl (hostRead_records _ s)
  | @store i v he =>
    by_cases hi : i = 0x002
    · subst hi; exact .inr (.inr ⟨v, he, rfl⟩)
    · exact .inl (hostStore_records hi v s)
  | illegal => exact .inl (requestIllegal_records s)
  | overlap => exact .inl (flagOverlap_records s)
  | encode => exact .inl (.of_eq rfl rfl rfl)
  | checksum => exact .inl (.of_eq rfl rfl rfl)
  | decode => rw [decodeEffect_eq]; exact .inl (.of_eq rfl rfl rfl)
  | exchange => exact .inl (.of_eq rfl rfl rfl)
  | readPkg => exact .inl (.of_eq rfl rfl rfl)
  | checkType => exact .inl (.of_eq rfl rfl rfl)
  | push _ bs => exact .inl (linePushAll_records bs s)
  | drain _ n => rw [lineDrainN_eq]; exact .inl (.of_eq rfl rfl rfl)

/-- Every step sets bits only, but for reset and a write to ERR. -/
theorem StepEffect.records (h : StepEffect s t) :
    s.Records t ∨ (∃ rest, s.inputs = .rst :: rest ∧ t = resetBlock { s with inputs := rest }) ∨
      ∃ v rest, s.inputs = .hostWrite 0x002 v :: rest ∧ t = { s with inputs := rest, err := s.err.clear v } := by
  cases h with
  | free _ ht => exact .inl ht.records
  | waiting _ _ ht => exact .inl ht.records
  | waited => exact .inl (.of_eq rfl rfl rfl)
  | @agent _ rest hi _ _ ha =>
    rcases ha.records with hr | ⟨rfl, ht⟩ | ⟨v, rfl, ht⟩
    · exact .inl { hr with }
    · exact .inr (.inl ⟨rest, hi, ht⟩)
    · exact .inr (.inr ⟨v, rest, hi, ht⟩)

/-- R64: a set bit survives a write-1-to-clear unless the written bit is 1. -/
theorem cleared_cases {bit w : Bool} (h : bit = true) : (bit && !w) = true ∨ w = true := by
  cases w <;> simp [h]

/-- Settles O48: a step sets bits only, or is a reset, or writes ERR; and only the last two can clear an ERR bit, the last one
only where it writes a 1. -/
theorem errorBitsAreSticky : Obligations.ErrorBitsAreSticky := by
  intro s t hs
  rcases (step_cases hs).records with ⟨he, hf, hc⟩ | ⟨rest, hi, rfl⟩ | ⟨v, rest, hi, rfl⟩
  · exact ⟨fun h => .inl (he.illegalOp h), fun h => .inl (he.overlap h), fun h => .inl (he.rxOverrun h),
      hf.illegalOp, hf.overlap, hf.rxOverrun, hf.pkgRawRead, hf.staleRead, hc⟩
  · have hrst : ∃ rest, s.inputs = .rst :: rest := ⟨rest, hi⟩
    exact ⟨fun _ => .inr (.inl hrst), fun _ => .inr (.inl hrst), fun _ => .inr (.inl hrst), id, id, id, id, id, rfl⟩
  · exact ⟨fun h => (cleared_cases h).imp_right fun hv => .inr ⟨v, rest, hi, hv⟩,
      fun h => (cleared_cases h).imp_right fun hv => .inr ⟨v, rest, hi, hv⟩,
      fun h => (cleared_cases h).imp_right fun hv => .inr ⟨v, rest, hi, hv⟩, id, id, id, id, id, rfl⟩

/-- Settles O47: each clause is the step's own equation for that head of the coming inputs. -/
theorem stepsOfTheSchedule : Obligations.StepsOfTheSchedule :=
  ⟨fun _ => step_nil, fun _ _ => step_tick, fun _ _ => step_waitDone⟩

end Sys2Proof.Machine
end

section
/-! SUPPORT. The register map as the host reads and writes it: one lemma a range of indices, and the operand store. -/

namespace Sys2Proof.Machine

open Sys2Proof

variable (s : State) {i : RegIndex}

/-! ### Reads, a range at a time -/

/-- R182, R183: READ_PKG accumulates in exactly its two phases. -/
theorem accumulating_iff : s.accumulating = true ↔ s.fsm = fsmPkgSync ∨ s.fsm = fsmPkgRead := by
  simp [State.accumulating]

theorem hostReg_txf (lo : 0x018 ≤ i.toNat) (hi : i.toNat ≤ 0x01F) :
    hostReg s i = s.txf.toList.getD (i.toNat - 0x018) 0 := by
  rw [hostReg_hi s (by omega), if_pos ⟨lo, hi⟩, Frame.get_eq_getD _ (by omega)]

theorem hostReg_rxf (lo : 0x020 ≤ i.toNat) (hi : i.toNat ≤ 0x027) :
    hostReg s i = s.rxf.toList.getD (i.toNat - 0x020) 0 := by
  rw [hostReg_hi s (by omega), if_neg (by omega), if_pos ⟨lo, hi⟩, Frame.get_eq_getD _ (by omega)]

theorem hostReg_frameIn (lo : 0x028 ≤ i.toNat) (hi : i.toNat ≤ 0x02F) :
    hostReg s i = s.frameIn.toList.getD (i.toNat - 0x028) 0 := by
  rw [hostReg_hi s (by omega), if_neg (by omega), if_neg (by omega), if_pos ⟨lo, hi⟩, Frame.get_eq_getD _ (by omega)]

theorem hostReg_pkgBuf (lo : 0x100 ≤ i.toNat) (hi : i.toNat < 0x100 + s.cfg.pkgMaxChars) :
    hostReg s i = s.hostPkgChar (i.toNat - 0x100) := by
  rw [hostReg_hi s (by omega), if_neg (by omega), if_neg (by omega), if_neg (by omega), if_pos ⟨lo, hi⟩]

/-- R22: PKG_RAW's range begins above PKG_BUF's only because a block holds at most 255 characters. -/
theorem hostReg_pkgRaw (hmax : s.cfg.pkgMaxChars ≤ 255) (lo : 0x200 ≤ i.toNat)
    (hi : i.toNat < 0x200 + s.cfg.pkgMaxChars / 2) : hostReg s i = (s.hostPkgRaw (i.toNat - 0x200)).getD 0x00 := by
  rw [hostReg_hi s (by omega), if_neg (by omega), if_neg (by omega), if_neg (by omega), if_neg (by omega),
    if_pos ⟨lo, hi⟩]

/-! ### What the host sees of a package -/

theorem hostPkgLen_eq : s.hostPkgLen = if s.fsm = fsmPkgSync ∨ s.fsm = fsmPkgRead then 0x00 else s.pkgLen := by
  simp only [State.hostPkgLen, accumulating_iff]

theorem hostPkgChar_eq (k : Nat) :
    s.hostPkgChar k =
      if s.fsm ≠ fsmPkgSync ∧ s.fsm ≠ fsmPkgRead ∧ k < s.pkgLen.toNat then s.pkgBuf.getD k 0 else 0x00 := by
  cases ha : s.accumulating with
  | true =>
    have hf := (accumulating_iff s).1 ha
    rw [(hostPkg_accumulating ha).2.1, if_neg (by tauto)]
  | false =>
    have hf : ¬ (s.fsm = fsmPkgSync ∨ s.fsm = fsmPkgRead) := by simp [← accumulating_iff, ha]
    rw [(hostPkg_settled ha).2.1]
    exact if_congr (by tauto) rfl rfl

theorem hostPkgRaw_getD_eq (j : Nat) :
    (s.hostPkgRaw j).getD 0x00 =
      if s.fsm = fsmPkgSync ∨ s.fsm = fsmPkgRead then 0x00 else (s.pkgRaw j).getD 0x00 := by
  simp only [State.hostPkgRaw, accumulating_iff]
  split <;> rfl

/-- R33: where the host sees no raw byte. -/
theorem hostPkgRaw_eq_none_iff (j : Nat) :
    s.hostPkgRaw j = none ↔ s.fsm = fsmPkgSync ∨ s.fsm = fsmPkgRead ∨ s.pkgRaw j = none := by
  rw [State.hostPkgRaw, ← or_assoc, ← accumulating_iff]
  split <;> simp [*]

/-- Settles O23: the named registers are the map's own entries; the ranges are `hostReg_txf` to `hostReg_pkgRaw`. -/
theorem registerMapReads : Obligations.RegisterMapReads := by
  intro s hmax
  refine ⟨rfl, rfl, rfl, rfl, rfl, rfl, rfl, rfl, rfl, rfl, rfl, rfl, rfl, rfl, rfl, hostPkgLen_eq s, rfl,
    fun _ => hostReg_txf s, fun _ => hostReg_rxf s, fun _ => hostReg_frameIn s, fun i lo hi => ?_, fun i lo hi => ?_⟩
  · rw [hostReg_pkgBuf s lo hi, hostPkgChar_eq]
  · rw [hostReg_pkgRaw s hmax lo hi, hostPkgRaw_getD_eq]

/-! ### The record of a read without a meaning -/

theorem readsEmptyRaw_iff (i : RegIndex) :
    readsEmptyRaw s i = true ↔ 0x200 ≤ i.toNat ∧ i.toNat < 0x200 + s.cfg.pkgMaxChars / 2 ∧
      (s.fsm = fsmPkgSync ∨ s.fsm = fsmPkgRead ∨ s.pkgRaw (i.toNat - 0x200) = none) := by
  simp [readsEmptyRaw, hostPkgRaw_eq_none_iff, and_assoc]

theorem readsStale_iff (i : RegIndex) :
    readsStale s i = true ↔ (s.stat.busy = true ∧ isResultIndex s i = true) ∨
      (s.stat.respValid = false ∧ 0x009 ≤ i.toNat ∧ i.toNat ≤ 0x00B) := by
  simp [readsStale, and_assoc]

/-- Settles O22: the step is `hostRead`, whose two records are `readsEmptyRaw` and `readsStale`. -/
theorem hostReadHasNoSideEffect : Obligations.HostReadHasNoSideEffect := fun s i _ hi =>
  ⟨readsEmptyRaw s i, readsStale s i, step_cons hi nofun, readsEmptyRaw_iff s i, readsStale_iff s i⟩

/-! ### STAT and ERR, bit by bit -/

/-- A flag's byte holds the flag at its own bit and 0 at every other. -/
theorem getLsbD_flagBit (b : Bool) {n : Nat} (hn : n < 8) (k : Nat) : (flagBit b n).getLsbD k = (b && decide (k = n)) := by
  cases b with
  | false => simp [flagBit]
  | true =>
    by_cases hk : k = n
    · simp [flagBit, hk, hn]
    · have : k < n ∨ k - n ≠ 0 := by omega
      rcases this with h | h <;> simp [flagBit, BitVec.getLsbD_one, hk, h]

/-- R23: STAT's bit k. -/
theorem Stat.getLsbD_toByte (st : Stat) (k : Nat) :
    st.toByte.getLsbD k =
      (st.busy && decide (k = 0) || st.done && decide (k = 1) || st.respValid && decide (k = 2) ||
        st.isLocal && decide (k = 3) || st.cksumOk && decide (k = 4) || st.typeMatch && decide (k = 5) ||
        st.pkgHexOk && decide (k = 6)) := by
  simp [Stat.toByte, getLsbD_flagBit]

/-- R24: ERR's bit k. -/
theorem Err.getLsbD_toByte (e : Err) (k : Nat) :
    e.toByte.getLsbD k = (e.illegalOp && decide (k = 0) || e.overlap && decide (k = 1) || e.rxOverrun && decide (k = 2)) := by
  simp [Err.toByte, getLsbD_flagBit]

/-- Settles O27: `Stat.getLsbD_toByte` and `Err.getLsbD_toByte` at each bit. -/
theorem statusAndErrorBits : Obligations.StatusAndErrorBits := by
  intro s
  have hstat : hostReg s 0x001 = s.stat.toByte := rfl
  have herr : hostReg s 0x002 = s.err.toByte := rfl
  have hhigh (k : Nat) (hk : 3 ≤ k) : k ≠ 0 ∧ k ≠ 1 ∧ k ≠ 2 := by omega
  simp only [hstat, herr, Stat.getLsbD_toByte, Err.getLsbD_toByte]
  simp +contextual [hhigh]

/-! ### Operand writes -/

/-- R63: what a write to CMD_OPCODE, CMD_P1, CMD_P2, CMD_P3 or FRAME_IN[k] leaves of the operands. -/
theorem hostStore_operand (v : Byte)
    (hi : (0x004 ≤ i.toNat ∧ i.toNat ≤ 0x007) ∨ (0x028 ≤ i.toNat ∧ i.toNat ≤ 0x02F)) :
    hostStore i v s =
      { s with
        cmdOpcode := if i.toNat = 0x004 then v else s.cmdOpcode
        cmdP1 := if i.toNat = 0x005 then v else s.cmdP1
        cmdP2 := if i.toNat = 0x006 then v else s.cmdP2
        cmdP3 := if i.toNat = 0x007 then v else s.cmdP3
        frameIn := if 0x028 ≤ i.toNat then s.frameIn.set (i.toNat - 0x028) v else s.frameIn } := by
  by_cases hf : 0x028 ≤ i.toNat
  · have hlow : i.toNat ≠ 2 ∧ i.toNat ≠ 4 ∧ i.toNat ≠ 5 ∧ i.toNat ≠ 6 ∧ i.toNat ≠ 7 := by omega
    simp [hostStore, hlow, hf, show i.toNat ≤ 0x02F by omega]
  · obtain h | h | h | h : i.toNat = 4 ∨ i.toNat = 5 ∨ i.toNat = 6 ∨ i.toNat = 7 := by omega
    all_goals simp [hostStore, h]

/-- R63: after an operand write that index reads v, and every other reads as before. Both reads are the chain of
`hostReg_operands`, over operands that differ at i only. -/
theorem hostReg_hostStore_operand (v : Byte)
    (hi : (0x004 ≤ i.toNat ∧ i.toNat ≤ 0x007) ∨ (0x028 ≤ i.toNat ∧ i.toNat ≤ 0x02F)) (j : RegIndex) :
    hostReg (hostStore i v s) j = if j = i then v else hostReg s j := by
  have hs : hostReg s j = _ := hostReg_operands s s.inputs s.cmdOpcode s.cmdP1 s.cmdP2 s.cmdP3 s.frameIn j
  have hset := Frame.get_set s.frameIn (k := i.toNat - 0x028) (j := j.toNat - 0x028) v
  have hji : j = i ↔ j.toNat = i.toNat := BitVec.toNat_inj.symm
  rw [hostStore_operand s v hi, hostReg_operands]
  grind

/-- Settles O25: the step is `hostStore`; `hostReg_hostStore_operand` says what is read after it, `hostStore_operand` that only
the operands differ. -/
theorem operandWriteStoresAndNothingElse : Obligations.OperandWriteStoresAndNothingElse := by
  intro s i v rest hin hi
  have hctrl : i ≠ 0x000 := by rintro rfl; simp at hi
  refine ⟨hostStore i v { s with inputs := rest }, (step_cons hin nofun).trans (hostWrite_store hctrl v _), ?_, ?_, ?_⟩
  · rw [hostReg_hostStore_operand _ v hi, if_pos rfl]
  · intro j hj
    rw [hostReg_hostStore_operand _ v hi, if_neg hj]
    rfl
  · rw [hostStore_operand _ v hi]

/-! ### Reset -/

theorem Frame.get_zero (k : Nat) : Frame.zero.get k = 0 := by
  unfold Frame.get
  split <;> rfl

/-- R40: every register reads 0x00 after reset. -/
theorem hostReg_reset (i : RegIndex) : hostReg State.reset i = 0x00 := by
  have hchar (k : Nat) : State.reset.hostPkgChar k = 0x00 := if_neg (Nat.not_lt_zero k)
  have hraw (j : Nat) : State.reset.hostPkgRaw j = none := by simp [State.hostPkgRaw, State.pkgRaw, State.reset]
  have htxf : State.reset.txf = Frame.zero := rfl
  have hrxf : State.reset.rxf = Frame.zero := rfl
  have hframeIn : State.reset.frameIn = Frame.zero := rfl
  by_cases hi : 0x011 ≤ i.toNat
  · simp [hostReg_hi _ hi, htxf, hrxf, hframeIn, Frame.get_zero, hchar, hraw]
  · obtain ⟨n, hn, rfl⟩ : ∃ n, n < 0x011 ∧ i = BitVec.ofNat 10 n := ⟨i.toNat, by omega, by simp⟩
    clear hi
    decide +revert

/-- Settles O39: `hostReg_reset` for the registers; the other elements are `State.reset`'s own. -/
theorem resetValues : Obligations.ResetValues :=
  ⟨hostReg_reset, rfl, rfl, rfl, rfl, rfl, rfl, rfl, rfl⟩

end Sys2Proof.Machine
end

section
/-! SUPPORT. What a step can do to the result registers, and the whole-machine rules about them: the quiet steps keep the view
`State.results`, so only a tick, a reset and an accepted operation remain to be looked at. -/

namespace Sys2Proof.Machine

open Sys2Proof

variable {s t : State}

/-! ### The result registers as one view -/

/-- What an operation writes (R26 to R33) and the host reads: the package as the host sees it (R38). -/
structure ResultView where
  cfg : Config
  stat : Stat
  resType : Byte
  resQ1 : Byte
  resQ2 : Byte
  resStatus : Byte
  cmdStatus : Byte
  rxf : Frame
  txf : Frame
  sentOpcode : Byte
  lastOp : Byte
  cksum : Byte
  pkgLen : Byte
  pkgChar : Nat → Byte
  pkgRaw : Nat → Option Byte

/-- The result registers of a state. -/
def State.results (s : State) : ResultView :=
  { cfg := s.cfg, stat := s.stat, resType := s.resType, resQ1 := s.resQ1, resQ2 := s.resQ2, resStatus := s.resStatus
    cmdStatus := s.cmdStatus, rxf := s.rxf, txf := s.txf, sentOpcode := s.sentOpcode, lastOp := s.lastOp
    cksum := s.cksum, pkgLen := s.hostPkgLen, pkgChar := s.hostPkgChar, pkgRaw := s.hostPkgRaw }

/-- R38: STAT and the result registers read the same in two states with the same view. -/
theorem hostReg_of_results {i : RegIndex} (h : t.results = s.results) (hi : i = 0x001 ∨ isResultIndex s i = true) :
    hostReg t i = hostReg s i := by
  simp only [State.results, ResultView.mk.injEq] at h
  obtain ⟨hcfg, hstat, htype, hq1, hq2, hst, hcmd, hrxf, htxf, -, -, -, hlen, hchar, hraw⟩ := h
  by_cases hhi : 0x011 ≤ i.toNat
  · have hframe : ¬ (0x028 ≤ i.toNat ∧ i.toNat ≤ 0x02F) := by
      rcases hi with rfl | hi
      · simp
      · simp [isResultIndex] at hi
        omega
    rw [hostReg_hi t hhi, hostReg_hi s hhi, if_neg hframe, if_neg hframe, hcfg, hrxf, htxf, hchar, hraw]
  · obtain rfl | rfl | rfl | rfl | rfl | rfl | rfl :
      i = 0x001 ∨ i = 0x009 ∨ i = 0x00A ∨ i = 0x00B ∨ i = 0x00C ∨ i = 0x00D ∨ i = 0x00F := by
      rcases hi with rfl | hi
      · exact .inl rfl
      · simp [isResultIndex] at hi
        simp [← BitVec.toNat_inj]
        omega
    · exact congrArg Stat.toByte hstat
    · exact htype
    · exact hq1
    · exact hq2
    · exact hst
    · exact hcmd
    · exact hlen

/-! ### What each step can do to them -/

/-- `Accepted s v t`: with BUSY = 0, writing v to CTRL runs the operation that takes s to t (R91, R222). -/
inductive Accepted (s : State) : Byte → State → Prop where
  | encode : Accepted s 0x01 (encodeEffect s)
  | checksum : Accepted s 0x02 (checksumEffect s)
  | decode : Accepted s 0x03 (decodeEffect s)
  | exchange : Accepted s 0x04 (exchangeAccept s)
  | readPkg : Accepted s 0x05 (readPkgAccept s)
  | checkType : Accepted s 0x06 (checkTypeEffect s)

/-- `ResultEffect s t`: a step from s may answer t, told apart by what it does to FSM and the result registers. -/
inductive ResultEffect (s : State) : State → Prop where
  | quiet {t : State} (hf : t.fsm = s.fsm) (hr : t.results = s.results) : ResultEffect s t
  | tick (r : List Input) {t : State} (h : TickEffect { s with inputs := r } t) : ResultEffect s t
  | reset {rest : List Input} (hi : s.inputs = .rst :: rest) : ResultEffect s (resetBlock { s with inputs := rest })
  | accept {v : Byte} {rest : List Input} (hi : s.inputs = .hostWrite 0x000 v :: rest) (hb : s.stat.busy = false)
      {t : State} (h : Accepted { s with inputs := rest } v t) : ResultEffect s t

/-- Every agent's step but a tick, a reset and an accepted operation leaves FSM and the result registers alone. -/
theorem AgentEffect.resultEffect {e : Input} {rest : List Input} (hi : s.inputs = e :: rest)
    (h : AgentEffect e { s with inputs := rest } t) : ResultEffect s t := by
  cases h with
  | tick _ ht => exact .tick rest ht
  | reset he => subst he; exact .reset hi
  | read => exact .quiet rfl rfl
  | store => rw [hostStore_eq]; exact .quiet rfl rfl
  | illegal => rw [requestIllegal_eq]; exact .quiet rfl rfl
  | overlap => exact .quiet rfl rfl
  | encode he hb => subst he; exact .accept hi hb .encode
  | checksum he hb => subst he; exact .accept hi hb .checksum
  | decode he hb => subst he; exact .accept hi hb .decode
  | exchange he hb => subst he; exact .accept hi hb .exchange
  | readPkg he hb => subst he; exact .accept hi hb .readPkg
  | checkType he hb => subst he; exact .accept hi hb .checkType
  | push => rw [linePushAll_eq]; exact .quiet rfl rfl
  | drain => rw [lineDrainN_eq]; exact .quiet rfl rfl

theorem StepEffect.resultEffect (h : StepEffect s t) : ResultEffect s t := by
  cases h with
  | free _ ht => exact .tick s.inputs ht
  | waiting _ _ ht => exact .tick s.inputs ht
  | waited => exact .quiet rfl rfl
  | agent hi _ ha => exact ha.resultEffect hi

/-! ### The operation goes on: no result changes -/

/-- The view shows the phase only through READ_PKG's progress. -/
theorem results_with_fsm {p : FsmCode} (h : (p == fsmPkgSync || p == fsmPkgRead) = s.accumulating) :
    State.results { s with fsm := p } = s.results := by
  have hacc : State.accumulating { s with fsm := p } = s.accumulating := h
  have hlen : State.hostPkgLen { s with fsm := p } = s.hostPkgLen := by simp only [State.hostPkgLen, hacc]
  have hchar : State.hostPkgChar { s with fsm := p } = s.hostPkgChar := by
    funext k; simp only [State.hostPkgChar, hlen]; rfl
  have hraw : State.hostPkgRaw { s with fsm := p } = s.hostPkgRaw := by
    funext j; simp only [State.hostPkgRaw, hacc]; rfl
  simp only [State.results, hlen, hchar, hraw]

/-- R38: what a PKG_READ tick stores is not seen by the host. -/
theorem results_pkgAppend (h : s.accumulating = true) (c : Byte) : (pkgAppend c s).results = s.results := by
  obtain ⟨hlen, hchar, hraw⟩ := hostPkg_accumulating h
  obtain ⟨hlen', hchar', hraw'⟩ := hostPkg_accumulating (s := pkgAppend c s) h
  simp [State.results, funext_iff, *]

/-- R38, R223: a tick that leaves BUSY = 1 completes nothing, and so leaves the view. -/
theorem TickEffect.results (h : TickEffect s t) (hb : t.stat.busy = true) : t.results = s.results := by
  cases h with
  | idle | txWaiting | waitMore | resyncEmpty | resyncDiscard | syncEmpty | syncDiscard | readEmpty | pkgEmptyPayload => rfl
  | waitTimeout | resyncTimeout | readValid | readInvalid | syncTimeout | readTimeout | pkgDone | pkgFull => cases hb
  | txDone hf | waitReady hf | resyncBack hf | syncMarker hf => 
    exact results_with_fsm (by rw [State.accumulating, hf]; rfl)
  | pkgChar hf => exact results_pkgAppend (s := { s with outerCnt := _, rxq := _ }) ((accumulating_iff s).2 (.inr hf)) _

/-- Settles O50: while BUSY = 1 no operation is accepted, a reset clears BUSY, and a tick that keeps it keeps the view. -/
theorem resultsWaitForCompletion : Obligations.ResultsWaitForCompletion := by
  intro s t hs h ht
  have hr : t.results = s.results := by
    cases (step_cases h).resultEffect with
    | quiet _ hr => exact hr
    | tick _ he => exact he.results ht
    | reset => cases ht
    | accept _ hb => rw [hs] at hb; cases hb
  refine ⟨fun i hi => hostReg_of_results hr hi, ?_⟩
  simp only [State.results, ResultView.mk.injEq] at hr
  obtain ⟨-, hstat, htype, hq1, hq2, hst, hcmd, hrxf, htxf, hsent, hlast, hck, -⟩ := hr
  exact ⟨htype, hq1, hq2, hst, hcmd, hrxf, htxf, hsent, hlast, hck, hstat⟩

end Sys2Proof.Machine
end

section
/-! SUPPORT. The rules on phases, stops, results and their writers: each is read off `ResultEffect`, which leaves a tick, a reset
and an accepted operation to be looked at. -/

namespace Sys2Proof.Machine

open Sys2Proof

variable {s t : State}

/-! ### Reset and IDLE -/

/-- Settles O40: the step is `resetBlock`. -/
theorem resetInputRestoresEveryElement : Obligations.ResetInputRestoresEveryElement :=
  fun _ _ hi => step_cons hi nofun

/-- R39: an IDLE tick leaves IDLE alone. -/
theorem TickEffect.fsm_idle (h : TickEffect s t) (hf : s.fsm = fsmIdle) : t.fsm = fsmIdle := by
  cases h with
  | idle => exact hf
  | txDone hf' | txWaiting hf' | waitTimeout hf' | waitReady hf' | waitMore hf' | resyncTimeout hf' | resyncEmpty hf'
  | resyncDiscard hf' | resyncBack hf' | readValid hf' | readInvalid hf' | syncTimeout hf' | syncEmpty hf' | syncMarker hf'
  | syncDiscard hf' | readTimeout hf' | readEmpty hf' | pkgDone hf' | pkgEmptyPayload hf' | pkgFull hf' | pkgChar hf' =>
    exact absurd (hf.symm.trans hf') (by decide)

/-- R39, R223: a tick that enters IDLE completes an operation. -/
theorem TickEffect.done_of_fsm_idle (h : TickEffect s t) (hs : s.fsm ≠ fsmIdle) (ht : t.fsm = fsmIdle) :
    t.stat.done = true ∧ t.stat.busy = false := by
  cases h with
  | idle hf => exact absurd hf hs
  | waitTimeout | resyncTimeout | readValid | readInvalid | syncTimeout | readTimeout | pkgDone | pkgFull => exact ⟨rfl, rfl⟩
  | txDone | resyncBack => exact absurd ht (by decide : fsmWait ≠ fsmIdle)
  | waitReady => exact absurd ht (by decide : fsmResync ≠ fsmIdle)
  | syncMarker => exact absurd ht (by decide : fsmPkgRead ≠ fsmIdle)
  | txWaiting | waitMore | resyncEmpty | resyncDiscard | syncEmpty | syncDiscard | readEmpty | pkgEmptyPayload | pkgChar =>
    exact absurd ht hs

/-- R39: of the accepted operations only EXCHANGE and READ_PKG move the phase; the others complete in the same step. -/
theorem Accepted.fsm_cases {v : Byte} (h : Accepted s v t) :
    (v = 0x04 ∧ t.fsm = fsmTxWait) ∨ (v = 0x05 ∧ t.fsm = fsmPkgSync) ∨ t.fsm = s.fsm := by
  cases h with
  | exchange => exact .inl ⟨rfl, rfl⟩
  | readPkg => exact .inr (.inl ⟨rfl, rfl⟩)
  | decode => rw [decodeEffect_eq]; exact .inr (.inr rfl)
  | encode | checksum | checkType => exact .inr (.inr rfl)

/-- R39: a step out of IDLE accepts EXCHANGE or READ_PKG. -/
theorem ResultEffect.leaves_idle (h : ResultEffect s t) (hs : s.fsm = fsmIdle) (ht : t.fsm ≠ fsmIdle) :
    (∃ rest, s.inputs = .hostWrite 0x000 0x04 :: rest ∧ t.fsm = fsmTxWait) ∨
      (∃ rest, s.inputs = .hostWrite 0x000 0x05 :: rest ∧ t.fsm = fsmPkgSync) := by
  cases h with
  | quiet hf _ => exact absurd (hf.trans hs) ht
  | tick _ he => exact absurd (he.fsm_idle hs) ht
  | reset _ => exact absurd rfl ht
  | @accept v rest hi hb _ he =>
    rcases he.fsm_cases with ⟨rfl, hf⟩ | ⟨rfl, hf⟩ | hf
    · exact .inl ⟨rest, hi, hf⟩
    · exact .inr ⟨rest, hi, hf⟩
    · exact absurd (hf.trans hs) ht

/-- R39: a step into IDLE is a reset or a completion. -/
theorem ResultEffect.enters_idle (h : ResultEffect s t) (hs : s.fsm ≠ fsmIdle) (ht : t.fsm = fsmIdle) :
    (∃ rest, s.inputs = .rst :: rest) ∨ (t.stat.done = true ∧ t.stat.busy = false) := by
  cases h with
  | quiet hf _ => exact absurd (hf.symm.trans ht) hs
  | tick _ he => exact .inr (he.done_of_fsm_idle hs ht)
  | @reset rest hi => exact .inl ⟨rest, hi⟩
  | accept _ _ he =>
    rcases he.fsm_cases with ⟨-, hf⟩ | ⟨-, hf⟩ | hf
    · exact absurd (hf.symm.trans ht) (by decide)
    · exact absurd (hf.symm.trans ht) (by decide)
    · exact absurd (hf.symm.trans ht) hs

/-- Settles O28: `ctlTick_idle`, `ResultEffect.leaves_idle` and `ResultEffect.enters_idle`. -/
theorem idleIsLeftAndEnteredOnlyAsStated : Obligations.IdleIsLeftAndEnteredOnlyAsStated :=
  ⟨fun _ _ hf hi => (step_tick hi).trans (ctlTick_idle hf), fun _ _ h => (step_cases h).resultEffect.leaves_idle,
    fun _ _ h => (step_cases h).resultEffect.enters_idle⟩

/-! ### The invariant of the result registers -/

/-- The invariant speaks of the view only. -/
theorem State.ResultInv.of_results (h : s.ResultInv) (hr : t.results = s.results) : t.ResultInv := by
  simp only [State.results, ResultView.mk.injEq] at hr
  obtain ⟨-, hstat, -, -, -, hst, hcmd, -⟩ := hr
  constructor <;> simp only [hstat, hst, hcmd]
  exacts [h.respNotLocal, h.respCksum, h.matchResp, h.matchStatus, h.mismatchFail, h.localStatus, h.localCodes]

/-- R200: a TypeCheck's answer. -/
theorem typeCheck_eq (e : Byte) (valid : Bool) (ty st : Byte) :
    typeCheck e valid ty st = (valid && decide (ty = e), if valid = false ∨ ty = e then st else statusFail) := by
  cases valid with
  | false => simp [typeCheck]
  | true => by_cases ht : ty = e <;> simp [typeCheck, ht]

/-- R200, R204: where TYPE_MATCH and CMD_STATUS are a TypeCheck's answer on RESP_VALID and RES_STATUS, the rows about them
hold. -/
theorem resultInv_of_typeCheck (e ty : Byte)
    (hv : (t.stat.typeMatch, t.cmdStatus) = typeCheck e t.stat.respValid ty t.resStatus)
    (hloc : t.stat.respValid = true → t.stat.isLocal = false) (hck : t.stat.respValid = true → t.stat.cksumOk = true)
    (hcode : t.stat.isLocal = true → t.resStatus = 0x00 ∨ t.resStatus = 0x01 ∨ t.resStatus = 0x13) : t.ResultInv := by
  rw [typeCheck_eq] at hv
  obtain ⟨hmatch, hcmd⟩ := Prod.mk.inj hv
  refine ⟨hloc, hck, ?_, ?_, ?_, ?_, hcode⟩ <;> simp +contextual [hmatch, hcmd, statusFail]

theorem resetBlock_resultInv : (resetBlock s).ResultInv :=
  { reset_resultInv with }

/-- R147, R148, R184 to R186: a local status st, with no response, is one of the three codes. -/
theorem localStatus_resultInv {st : Byte} (hst : st = 0x00 ∨ st = 0x01 ∨ st = 0x13) :
    (finish st true (noAck st s)).ResultInv :=
  resultInv_of_typeCheck 0 0 rfl nofun nofun fun _ => hst

theorem exchangeSuccess_resultInv (a : DecodedAck) : (exchangeSuccess a s).ResultInv :=
  resultInv_of_typeCheck s.sentOpcode a.type rfl (fun _ => rfl) (fun _ => rfl) nofun

theorem TickEffect.keeps_resultInv (he : TickEffect s t) (h : s.ResultInv) : t.ResultInv := by
  cases he with
  | waitTimeout | resyncTimeout | syncTimeout | readTimeout => exact localStatus_resultInv (.inr (.inr rfl))
  | readInvalid | pkgFull => exact localStatus_resultInv (.inr (.inl rfl))
  | pkgDone => exact localStatus_resultInv (.inl rfl)
  | readValid => exact exchangeSuccess_resultInv _
  | _ => exact { h with }

theorem decodeEffect_resultInv : (decodeEffect s).ResultInv := by
  rw [decodeEffect_eq]
  by_cases hv : checksum s.frameIn = s.frameIn.o6
  · refine resultInv_of_typeCheck s.cmdOpcode s.frameIn.o1 ?_ ?_ ?_ ?_ <;> simp [typeCheck_eq, hv]
  · refine resultInv_of_typeCheck s.cmdOpcode s.frameIn.o1 ?_ ?_ ?_ ?_ <;> simp [typeCheck_eq, hv, statusFail]

theorem Accepted.keeps_resultInv {v : Byte} (he : Accepted s v t) (h : s.ResultInv) : t.ResultInv := by
  cases he with
  | encode | checksum | exchange | readPkg => exact { h with }
  | decode => exact decodeEffect_resultInv
  | checkType =>
    exact resultInv_of_typeCheck s.cmdOpcode s.resType rfl h.respNotLocal h.respCksum h.localCodes

/-- Settles O43: a quiet step leaves the view, and ticks, reset and accepted operations keep the invariant. -/
theorem everyStepKeepsResultInv : Obligations.EveryStepKeepsResultInv := by
  intro s t h hs
  cases (step_cases hs).resultEffect with
  | quiet _ hr => exact h.of_results hr
  | tick _ he => exact he.keeps_resultInv { h with }
  | reset => exact resetBlock_resultInv
  | accept _ _ he => exact he.keeps_resultInv { h with }

/-! ### What stops -/

/-- R34: a tick goes on in the six legal phases and has the FSM-code fault in the other two. -/
theorem ctlTick_total (s : State) : (∃ t, ctlTick s = .next t) ∨ (ctlTick s = .fault .fsmCode ∧ 6 ≤ s.fsm.toNat) := by
  by_cases hf : s.fsm.toNat ≤ 5
  · obtain ⟨t, ht, -⟩ := ctlTick_effect hf
    exact .inl ⟨t, ht⟩
  · exact .inr ⟨ctlTick_illegal (by omega), by omega⟩

/-- R34, R72: a step goes on, but for a tick in a phase 6 or 7. -/
theorem step_total (s : State) : (∃ t, step s = .next t) ∨ (step s = .fault .fsmCode ∧ 6 ≤ s.fsm.toNat) := by
  rcases hi : s.inputs with _ | ⟨e, rest⟩
  · rw [step_nil hi]; exact ctlTick_total s
  · by_cases htick : e = .tick
    · subst htick
      rw [step_tick hi]; exact ctlTick_total { s with inputs := rest }
    by_cases hwait : e = .waitDone
    · subst hwait
      rw [step_waitDone hi]
      split
      · exact .inl ⟨_, rfl⟩
      · exact ctlTick_total s
    · obtain ⟨t, ht, -⟩ := agentStep_effect (s := { s with inputs := rest }) hwait (fun he => absurd he htick)
      exact .inl ⟨t, by rw [step_cons hi hwait, ht]⟩

/-- Settles O45: `step_total` leaves the FSM-code fault alone, and `ctlTick_illegal` shows it. -/
theorem onlyAnIllegalPhaseStops : Obligations.OnlyAnIllegalPhaseStops := by
  refine ⟨fun s => ?_, fun s rest hi hf => (step_tick hi).trans (ctlTick_illegal hf)⟩
  rcases step_total s with ⟨t, ht⟩ | ⟨hfault, hf⟩
  · rw [ht]; exact ⟨nofun, nofun⟩
  · rw [hfault]; exact ⟨fun r hr => by cases hr; exact ⟨rfl, hf⟩, nofun⟩

/-! ### Who writes the result registers -/

/-- R26, R32: a tick writes neither SENT_OPCODE nor CKSUM. -/
theorem TickEffect.sentOpcode_cksum (h : TickEffect s t) : t.sentOpcode = s.sentOpcode ∧ t.cksum = s.cksum := by
  cases h <;> exact ⟨rfl, rfl⟩

/-- RES_TYPE, RES_Q1 and RES_Q2 stay. -/
def State.SameFields (s t : State) : Prop := t.resType = s.resType ∧ t.resQ1 = s.resQ1 ∧ t.resQ2 = s.resQ2

/-- R30: a completion with a checksum-valid response. -/
def State.ValidResponse (t : State) : Prop :=
  t.stat.respValid = true ∧ t.stat.cksumOk = true ∧ t.stat.isLocal = false ∧ t.stat.done = true

theorem State.SameFields.not_changed (h : s.SameFields t) :
    ¬ (t.resType ≠ s.resType ∨ t.resQ1 ≠ s.resQ1 ∨ t.resQ2 ≠ s.resQ2) := by
  obtain ⟨htype, hq1, hq2⟩ := h
  simp [htype, hq1, hq2]

/-- R28, R30, R145: outside RESYNC's reading of a frame a tick leaves RES_TYPE, RES_Q1, RES_Q2 and RXF. -/
theorem TickEffect.frame_cases (h : TickEffect s t) :
    (s.SameFields t ∧ t.rxf = s.rxf) ∨ (s.fsm = fsmResync ∧ t.fsm = fsmIdle ∧ (s.SameFields t ∨ t.ValidResponse)) := by
  cases h with
  | readValid hf => exact .inr ⟨hf, rfl, .inr ⟨rfl, rfl, rfl, rfl⟩⟩
  | readInvalid hf => exact .inr ⟨hf, rfl, .inl ⟨rfl, rfl, rfl⟩⟩
  | _ => exact .inl ⟨⟨rfl, rfl, rfl⟩, rfl⟩

/-- R125: DECODE writes the frame's fields only where the checksum matches. -/
theorem decodeEffect_fields (s : State) : s.SameFields (decodeEffect s) ∨ (decodeEffect s).ValidResponse := by
  rw [decodeEffect_eq]
  by_cases hv : checksum s.frameIn = s.frameIn.o6
  · exact .inr (by simp [State.ValidResponse, hv])
  · exact .inl (by simp [State.SameFields, hv])

/-- R26, R28, R30, R32: SENT_OPCODE is EXCHANGE's, the frame's fields are DECODE's, CKSUM is CHECKSUM's, and RXF is no accepted
operation's. -/
theorem Accepted.writers {v : Byte} (h : Accepted s v t) :
    (t.sentOpcode = s.sentOpcode ∨ v = 0x04 ∧ t.sentOpcode = s.cmdOpcode) ∧
      (s.SameFields t ∨ v = 0x03 ∧ t.ValidResponse) ∧ t.rxf = s.rxf ∧ (t.cksum = s.cksum ∨ v = 0x02) := by
  cases h with
  | exchange => exact ⟨.inr ⟨rfl, rfl⟩, .inl ⟨rfl, rfl, rfl⟩, rfl, .inl rfl⟩
  | checksum => exact ⟨.inl rfl, .inl ⟨rfl, rfl, rfl⟩, rfl, .inr rfl⟩
  | decode =>
    refine ⟨.inl ?_, (decodeEffect_fields s).imp_right fun h => ⟨rfl, h⟩, ?_, .inl ?_⟩ <;> rw [decodeEffect_eq]
  | encode | readPkg | checkType => exact ⟨.inl rfl, .inl ⟨rfl, rfl, rfl⟩, rfl, .inl rfl⟩

/-- Settles O51: a quiet step writes none of them, a tick only what `TickEffect.frame_cases` says, an accepted operation only what
`Accepted.writers` says. -/
theorem writersOfTheResultRegisters : Obligations.WritersOfTheResultRegisters := by
  intro s t h hrst
  cases (step_cases h).resultEffect with
  | quiet _ hr =>
    simp only [State.results, ResultView.mk.injEq] at hr
    obtain ⟨-, -, htype, hq1, hq2, -, -, hrxf, -, hsent, -, hck, -⟩ := hr
    have hsame : s.SameFields t := ⟨htype, hq1, hq2⟩
    exact ⟨absurd hsent, fun hne => absurd hne hsame.not_changed, absurd hrxf, absurd hck⟩
  | tick _ he =>
    obtain ⟨hsent, hck⟩ := he.sentOpcode_cksum
    rcases he.frame_cases with ⟨hsame, hrxf⟩ | ⟨hs, ht, hfields⟩
    · exact ⟨absurd hsent, fun hne => absurd hne hsame.not_changed, absurd hrxf, absurd hck⟩
    · refine ⟨absurd hsent, fun hne => ?_, fun _ => ⟨hs, ht⟩, absurd hck⟩
      obtain ⟨hv, hc, hl, hd⟩ := hfields.resolve_left fun hsame => hsame.not_changed hne
      exact ⟨hv, hc, hl, hd, .inl hs⟩
  | reset hi => exact absurd ⟨_, hi⟩ hrst
  | @accept v rest hi hb _ he =>
    obtain ⟨hsent, hfields, hrxf, hck⟩ := he.writers
    refine ⟨fun hne => ?_, fun hne => ?_, absurd hrxf, fun hne => ?_⟩
    · obtain ⟨rfl, ht⟩ := hsent.resolve_left hne
      exact ⟨⟨rest, hi⟩, hb, ht⟩
    · obtain ⟨rfl, hv, hc, hl, hd⟩ := hfields.resolve_left fun hsame => hsame.not_changed hne
      exact ⟨hv, hc, hl, hd, .inr ⟨rest, hi⟩⟩
    · obtain rfl := hck.resolve_left hne
      exact ⟨⟨rest, hi⟩, hb⟩

end Sys2Proof.Machine
end

section
/-! SUPPORT. The hex digits of a package, written (R67) and read back (R33, R188). -/

namespace Sys2Proof

/-- R188 undoes R67 digit by digit. -/
theorem hexVal_hexDigit {n : Nat} (hn : n < 16) : hexVal (hexDigit n) = some (BitVec.ofNat 8 n) := by
  decide +revert

theorem isHexChar_hexDigit {n : Nat} (hn : n < 16) : isHexChar (hexDigit n) = true := by
  decide +revert

/-- R33: a byte's two digits, high nibble first, give the byte back. -/
theorem hexPair_hexDigit (b : Byte) : hexPair (hexDigit (b.toNat / 16)) (hexDigit (b.toNat % 16)) = some b := by
  have hhi : b.toNat / 16 < 16 := by omega
  have hlo : b.toNat % 16 < 16 := by omega
  have hb : BitVec.ofNat 8 (b.toNat / 16) <<< 4 ||| BitVec.ofNat 8 (b.toNat % 16) = b := by
    apply BitVec.eq_of_toNat_eq
    have hshift : (b.toNat / 16) <<< 4 < 2 ^ 8 := by rw [Nat.shiftLeft_eq]; omega
    calc
      _ = (b.toNat / 16) <<< 4 ||| b.toNat % 16 := by
        rw [BitVec.toNat_or, BitVec.toNat_shiftLeft, BitVec.toNat_ofNat, BitVec.toNat_ofNat,
          Nat.mod_eq_of_lt (show b.toNat / 16 < 2 ^ 8 by omega), Nat.mod_eq_of_lt (show b.toNat % 16 < 2 ^ 8 by omega),
          Nat.mod_eq_of_lt hshift]
      _ = b.toNat / 16 * 2 ^ 4 + b.toNat % 16 := by rw [← Nat.shiftLeft_add_eq_or_of_lt hlo, Nat.shiftLeft_eq]
      _ = b.toNat := by omega
  simp [hexPair, hexVal_hexDigit hhi, hexVal_hexDigit hlo, hb]

theorem length_hexEncode (raw : List Byte) : (hexEncode raw).length = 2 * raw.length := by
  induction raw with
  | nil => rfl
  | cons b raw ih => simp [hexEncode, ih]; omega

theorem all_isHexChar_hexEncode (raw : List Byte) : (hexEncode raw).all isHexChar = true := by
  induction raw with
  | nil => rfl
  | cons b raw ih =>
    have hhi : b.toNat / 16 < 16 := by omega
    have hlo : b.toNat % 16 < 16 := by omega
    simp [hexEncode, isHexChar_hexDigit hhi, isHexChar_hexDigit hlo, ih]

/-- R67: the j-th raw byte stands at characters 2j and 2j + 1. -/
theorem hexPair_hexEncode (raw : List Byte) (j : Nat) (hj : j < raw.length) :
    hexPair ((hexEncode raw).getD (2 * j) 0x00) ((hexEncode raw).getD (2 * j + 1) 0x00) = some raw[j] := by
  induction raw generalizing j with
  | nil => cases hj
  | cons b raw ih =>
    cases j with
    | zero => exact hexPair_hexDigit b
    | succ j => exact ih j (by simpa using hj)

namespace Machine

/-- Settles O58: PKG_BUF is `hexEncode raw`, of which `all_isHexChar_hexEncode` gives the equation and `hexPair_hexEncode` the
bytes. -/
theorem pkgRawGivesTheRawBytes : Obligations.PkgRawGivesTheRawBytes := by
  intro s raw hne hmax hbuf hlen
  have hpos : 0 < raw.length := List.length_pos_of_ne_nil hne
  have hlenNat : s.pkgLen.toNat = 2 * raw.length := by rw [hlen, BitVec.toNat_ofNat]; omega
  have hfull : s.pkgLen.toNat = s.pkgBuf.length := by rw [hlenNat, hbuf, length_hexEncode]
  refine ⟨?_, fun hok j hj => ?_, fun j hj => if_neg ?_⟩
  · simp [pkgIsHex_eq hfull, hbuf, length_hexEncode, all_isHexChar_hexEncode, hpos]
  · rw [State.pkgRaw, if_pos ⟨hok, by omega⟩, State.pkgChar, State.pkgChar, hbuf, hexPair_hexEncode raw j hj]
  · rintro ⟨-, h⟩; omega

end Machine

end Sys2Proof
end

section
/-! SUPPORT. What a run of bytes read as an instruction is, and that a step, and a placed opcode-table word, run it (R63, R90,
R222; log entries 3, 4, 15). -/

namespace Sys2Proof

/-! ### From an answer of the decoder to the bytes -/

theorem decodeWhole_eq_some_iff {p : Port} {bs : List Byte} {i : Instr} :
    decodeWhole p bs = some i ↔ decode p bs = .ok (i, []) := by
  unfold decodeWhole
  constructor
  · intro h
    split at h
    · cases h; assumption
    · cases h
  · intro h
    rw [h]

theorem decode_ctrl_ok {v : Byte} {rest : List Byte} {i : Instr} (h : decode .ctrl [v] = .ok (i, rest)) :
    decodeCtrl v = .ok i := by
  cases hv : decodeCtrl v with
  | ok j => simp only [decode, hv, Except.ok.injEq, Prod.mk.injEq] at h; rw [h.1]
  | error e => simp [decode, hv] at h

/-- R91, R92: the legal CTRL values. -/
theorem exists_decodeCtrl_ok_iff (v : Byte) : (∃ i, decodeCtrl v = .ok i) ↔ 1 ≤ v.toNat ∧ v.toNat ≤ 6 := by
  constructor
  · rintro ⟨i, h⟩
    obtain ⟨-, hp, he⟩ := decodeCtrl_ok h
    cases i with
    | cmdFrame | ackFrame | wireCmdGetUserCount | dataPackage => cases hp
    | _ => cases he; decide
  · rintro ⟨h1, h6⟩
    obtain ⟨n, hn, rfl⟩ : ∃ n, n = v.toNat ∧ v = BitVec.ofNat 8 n := ⟨v.toNat, rfl, by simp⟩
    rw [← hn] at h1 h6
    obtain rfl | rfl | rfl | rfl | rfl | rfl : n = 1 ∨ n = 2 ∨ n = 3 ∨ n = 4 ∨ n = 5 ∨ n = 6 := by omega
    all_goals exact ⟨_, rfl⟩

/-- Log entry 4: a word of the opcode table is a CTRL value, or it is the encoding of what is sent on a line. -/
theorem decodeTableWord_some {nbits w : Nat} {i : Instr} (h : decodeTableWord nbits w = some i) :
    (nbits = 8 ∧ decodeCtrl (BitVec.ofNat 8 w) = .ok i) ∨
      (nbits ≠ 8 ∧ i.port ≠ .ctrl ∧ wordBytes (nbits / 8) w = encode i) := by
  by_cases h8 : nbits = 8
  · subst h8
    have hv : decodeWhole .ctrl [BitVec.ofNat 8 w] = some i := by simpa [decodeTableWord, wordBytes] using h
    exact .inl ⟨rfl, decode_ctrl_ok (decodeWhole_eq_some_iff.1 hv)⟩
  refine .inr ⟨h8, ?_⟩
  have hsend : (i.port = .tx ∨ i.port = .rxFrame ∨ i.port = .rxPackage) ∧ wordBytes (nbits / 8) w = encode i := by
    by_cases h64 : nbits = 64
    · subst h64
      cases htx : decodeWhole .tx (wordBytes 8 w) with
      | some j =>
        obtain rfl : j = i := by simpa [decodeTableWord, htx] using h
        obtain ⟨hp, hb⟩ := decode_tx_ok (decodeWhole_eq_some_iff.1 htx)
        exact ⟨.inl hp, by simpa using hb⟩
      | none =>
        have hrx : decodeWhole .rxFrame (wordBytes 8 w) = some i := by simpa [decodeTableWord, htx] using h
        obtain ⟨hp, hb⟩ := decodeWhole_rx (.inl rfl) hrx
        exact ⟨.inr (.inl hp), hb⟩
    · have hrx : decodeWhole .rxPackage (wordBytes (nbits / 8) w) = some i := by
        simp only [decodeTableWord, h8, h64, if_false] at h
        split at h
        · cases h
        · exact h
      obtain ⟨hp, hb⟩ := decodeWhole_rx (.inr rfl) hrx
      exact ⟨.inr (.inr hp), hb⟩
  obtain ⟨hp | hp | hp, hb⟩ := hsend <;> exact ⟨by simp [hp], hb⟩

namespace Machine

variable {s : State} {i : Instr} {bs rest : List Byte}

/-! ### Where each port's bytes are run -/

theorem hostWrite_of_decode {v : Byte} (h : decode .ctrl [v] = .ok (i, rest)) (s : State) :
    hostWrite 0x000 v s = exec i s := by
  simp [hostWrite, h]

theorem takeOutbound_of_decode (h : decode .tx s.txq = .ok (i, rest)) : takeOutbound s = exec i s := by
  simp [takeOutbound, h]

theorem deliverInbound_of_decode {p : Port} (h : decode p bs = .ok (i, [])) (s : State) :
    deliverInbound p bs s = exec i s := by
  simp [deliverInbound, decodeWhole_eq_some_iff.2 h]

/-- Settles O46: the step is its agent's, and each agent runs what its port's decoder answers. -/
theorem stepRunsTheDecodedInstruction : Obligations.StepRunsTheDecodedInstruction := by
  refine ⟨fun s v i rest bs hi h => ?_, fun s i rest bs hi h => ?_, fun s i rest bs hi h => ?_,
    fun s i rest bs hi h => ?_⟩ <;> rw [step_cons hi (by simp)]
  · exact hostWrite_of_decode h _
  · exact takeOutbound_of_decode h
  · exact deliverInbound_of_decode h _
  · exact deliverInbound_of_decode h _

/-! ### A placed word -/

section Placed

variable {nbits w : Nat}

theorem placeWord_ctrl (s : State) (w : Nat) :
    placeWord s 8 w = { s with inputs := .hostWrite 0x000 (BitVec.ofNat 8 w) :: s.inputs } := rfl

theorem placeWord_tx (h : decodeTableWord nbits w = some i) (h8 : nbits ≠ 8) (hp : i.port = .tx) :
    placeWord s nbits w =
      { s with txq := wordBytes (nbits / 8) w ++ s.txq, inputs := .txFrame :: s.inputs } := by
  simp [placeWord, h, h8, hp]

theorem placeWord_rxFrame (h : decodeTableWord nbits w = some i) (h8 : nbits ≠ 8) (hp : i.port = .rxFrame) :
    placeWord s nbits w = { s with inputs := .rxFrame (wordBytes (nbits / 8) w) :: s.inputs } := by
  simp [placeWord, h, h8, hp]

theorem placeWord_rxPackage (h : decodeTableWord nbits w = some i) (h8 : nbits ≠ 8) (hp : i.port = .rxPackage) :
    placeWord s nbits w = { s with inputs := .rxPackage (wordBytes (nbits / 8) w) :: s.inputs } := by
  simp [placeWord, h, h8, hp]

end Placed

/-- Settles O5: the word is placed as `placeWord_ctrl` to `placeWord_rxPackage` say, and its bytes are its instruction's encoding
(`decodeTableWord_some`), which the next step runs. -/
theorem placedWordIsRunNext : Obligations.PlacedWordIsRunNext := by
  intro s nbits w i h
  rw [State.withFetchWord]
  rcases decodeTableWord_some h with ⟨rfl, hv⟩ | ⟨h8, hctrl, hw⟩
  · obtain ⟨-, hp, -⟩ := decodeCtrl_ok hv
    rw [placeWord_ctrl, step_cons rfl (by simp), if_neg (by simp [hp])]
    exact hostWrite_ctrl_ok hv s
  · cases hp : i.port with
    | ctrl => exact absurd hp hctrl
    | tx =>
      rw [placeWord_tx h h8 hp, hw, step_cons rfl (by simp), if_pos rfl]
      exact (takeOutbound_eq _).trans (exec_outbound hp rfl).symm
    | rxFrame =>
      rw [placeWord_rxFrame h h8 hp, hw, step_cons rfl (by simp), if_neg (by simp), exec_inbound (.inl rfl) hp]
      exact deliverInbound_eq (.inl rfl) _ s
    | rxPackage =>
      rw [placeWord_rxPackage h h8 hp, hw, step_cons rfl (by simp), if_neg (by simp), exec_inbound (.inr rfl) hp]
      exact deliverInbound_eq (.inr rfl) _ s

/-! ### Acceptance of a CTRL write (R222) -/

/-- R222: a request while BUSY is dropped, whatever it requests. -/
theorem exec_ctrl_busy (hp : i.port = .ctrl) (hb : s.stat.busy = true) : exec i s = .next (flagOverlap s) := by
  cases i with
  | cmdFrame | ackFrame | wireCmdGetUserCount | dataPackage => cases hp
  | _ => exact request_busy _ hb

/-- Settles O15: `exists_decodeCtrl_ok_iff` tells the illegal values, which `requestIllegal_eq` records, from the legal ones, which
run, and while BUSY are dropped (`exec_ctrl_busy`). -/
theorem ctrlWriteIsCheckedForAcceptance : Obligations.CtrlWriteIsCheckedForAcceptance := by
  intro s v rest hi
  have hstep : step s = hostWrite 0x000 v { s with inputs := rest } := step_cons hi (by simp)
  rw [hstep]
  refine ⟨fun hv => ?_, fun hlt h1 h6 hb => ?_, fun _ => ⟨?_, ?_, ?_, ?_, ?_, ?_⟩⟩
  · cases hd : decodeCtrl v with
    | error e => rw [hostWrite_ctrl_error hd, requestIllegal_eq]
    | ok i =>
      have := (exists_decodeCtrl_ok_iff v).1 ⟨i, hd⟩
      omega
  · obtain ⟨i, hd⟩ := (exists_decodeCtrl_ok_iff v).2 (by omega)
    obtain ⟨-, hp, -⟩ := decodeCtrl_ok hd
    rw [hostWrite_ctrl_ok hd]
    exact exec_ctrl_busy hp hb
  all_goals
    rintro rfl
    exact hostWrite_ctrl_ok rfl _

end Machine
end Sys2Proof
end

section
/-! SUPPORT. The LINE's transfers (R71, R73; log entry 3) and the host's writes to ERR and to what it cannot write (R62, R64). -/

namespace Sys2Proof.Machine

open Sys2Proof

variable {s : State}

/-! ### Inbound bytes -/

/-- Settles O16: `linePushAll_eq` for the frame's eight bytes. -/
theorem ackFrameEntersRxq : Obligations.AckFrameEntersRxq := by
  intro s t q1 q2 st r k z
  rw [exec_inbound (.inl rfl) rfl, linePushAll_eq]
  rfl

/-- Settles O17: `linePushAll_eq` for the characters and the two markers. -/
theorem dataPackageEntersRxq : Obligations.DataPackageEntersRxq := by
  intro s chars
  rw [exec_inbound (.inr rfl) rfl, linePushAll_eq]
  simp [encode, marker]

theorem linePush_room (h : s.rxq.length < s.cfg.rxDepth) (b : Byte) : linePush b s = { s with rxq := s.rxq ++ [b] } :=
  if_pos h

theorem linePush_full (h : s.cfg.rxDepth ≤ s.rxq.length) (b : Byte) :
    linePush b s = { s with err.rxOverrun := true, faultBits.rxOverrun := true } :=
  if_neg (by omega)

/-- Settles O20: the step is `linePush`, in its two branches. -/
theorem linePushAppendsOrDropsTheNewest : Obligations.LinePushAppendsOrDropsTheNewest := by
  intro s b rest hi
  have hstep : step s = .next (linePush b { s with inputs := rest }) := step_cons hi (by simp)
  rw [hstep]
  exact ⟨fun h => congrArg _ (linePush_room (s := { s with inputs := rest }) h b),
    fun h => congrArg _ (linePush_full (s := { s with inputs := rest }) h b)⟩

/-! ### Outbound bytes -/

/-- R93, R97, R121: the bytes of a command frame. -/
theorem toList_encodeCommand (o p1 p2 p3 : Byte) :
    (encodeCommand o p1 p2 p3).toList = [0xF5, o, p1, p2, p3, 0x00, o ^^^ p1 ^^^ p2 ^^^ p3, 0xF5] := by
  simp [encodeCommand, checksum, Frame.toList, marker]

/-- R95: the bytes of the named row. -/
theorem toList_encodeCommand_getUserCount :
    (encodeCommand 0x09 0x00 0x00 0x00).toList = [0xF5, 0x09, 0x00, 0x00, 0x00, 0x00, 0x09, 0xF5] := by decide

theorem lineTakeFrame_notQueued {f : Frame} (h : s.txq.take 8 ≠ f.toList) : lineTakeFrame f s = .fault .frameNotQueued :=
  if_neg h

/-- Settles O18: both rows are `lineTakeFrame`, of a frame that is queued. -/
theorem commandFrameLeavesTxq : Obligations.CommandFrameLeavesTxq :=
  ⟨fun _ o p1 p2 p3 _ h => lineTakeFrame_queued (by rw [toList_encodeCommand o p1 p2 p3, h]),
    fun _ _ h => lineTakeFrame_queued (by rw [toList_encodeCommand_getUserCount, h])⟩

/-- Settles O19: both rows are `lineTakeFrame`, of a frame that is not queued. -/
theorem unqueuedCommandFrameStops : Obligations.UnqueuedCommandFrameStops :=
  ⟨fun _ o p1 p2 p3 h => lineTakeFrame_notQueued (by rwa [toList_encodeCommand o p1 p2 p3]),
    fun _ h => lineTakeFrame_notQueued (by rwa [toList_encodeCommand_getUserCount])⟩

/-- Settles O21: a strobe leaves TXQ's tail (`lineDrain`), a frame's worth of them what `takeOutbound_eq` says. -/
theorem lineDrainTakesTheOldest : Obligations.LineDrainTakesTheOldest := by
  refine ⟨fun s rest hi => ?_, fun s rest hi => ?_⟩
  · have hstep : step s = .next { s with inputs := rest, txq := s.txq.tail } := step_cons hi (by simp)
    refine ⟨fun b q hq => by rw [hstep, hq, List.tail_cons], fun hq => ?_⟩
    rw [hstep, hq, List.tail_nil, ← hq]
  · have hstep : step s = takeOutbound { s with inputs := rest } := step_cons hi (by simp)
    rw [hstep, takeOutbound_eq, lineDrainN_eq]
    rfl

/-! ### The host's writes -/

/-- R62: an index outside the map reads 0x00. -/
theorem hostReg_unmapped {i : RegIndex} (h : mappedIndex s.cfg i = false) : hostReg s i = 0x00 := by
  simp only [mappedIndex, Bool.or_eq_false_iff, Bool.and_eq_false_iff, decide_eq_false_iff_not] at h
  rw [hostReg_hi s (by omega)]
  repeat rw [if_neg (by omega)]

/-- Settles O24: `hostReg_unmapped` for the reads, `hostStore_readOnly` for the writes, of which none is to CTRL. -/
theorem unmappedReadsZeroAndReadOnlyWritesAreIgnored : Obligations.UnmappedReadsZeroAndReadOnlyWritesAreIgnored := by
  refine ⟨fun s i h => hostReg_unmapped h, fun s i v rest h hi => ?_⟩
  have hctrl : i ≠ 0x000 := by rintro rfl; cases h
  have hstep : step s = hostWrite i v { s with inputs := rest } := step_cons hi (by simp)
  rw [hstep, hostWrite_store hctrl, hostStore_readOnly h]

/-- R64: the byte of ERR after a write. -/
theorem Err.toByte_clear (e : Err) (v : Byte) : (e.clear v).toByte = e.toByte &&& ~~~v := by
  apply BitVec.eq_of_getLsbD_eq
  intro k hk
  rw [BitVec.getLsbD_and, BitVec.getLsbD_not, Err.getLsbD_toByte, Err.getLsbD_toByte]
  obtain rfl | rfl | rfl | h : k = 0 ∨ k = 1 ∨ k = 2 ∨ 3 ≤ k := by omega
  · simp [Err.clear]
  · simp [Err.clear]
  · simp [Err.clear]
  · simp [show k ≠ 0 by omega, show k ≠ 1 by omega, show k ≠ 2 by omega]

/-- R24: ERR's reserved bits 7:3 read 0. -/
theorem Err.toNat_toByte_lt (e : Err) : e.toByte.toNat < 8 := by
  obtain ⟨a, b, c⟩ := e
  decide +revert

/-- Settles O26: the step is `hostStore` at 0x002, whose byte `Err.toByte_clear` gives. -/
theorem errIsWriteOneToClear : Obligations.ErrIsWriteOneToClear := fun s v rest hi =>
  ⟨{ s with inputs := rest, err := s.err.clear v }, step_cons hi (by simp), Err.toByte_clear s.err v,
    Err.toNat_toByte_lt (s.err.clear v), rfl⟩

/-! ### No step stops -/

/-- Settles O44: in a legal phase `step_effect` gives the next state. -/
theorem noStepStopsUnderTheInvariant : Obligations.NoStepStopsUnderTheInvariant := by
  intro s h
  obtain ⟨t, ht, -⟩ := step_effect h.fsmLegal
  exact ⟨t, ht⟩

end Sys2Proof.Machine
end

section
/-! SUPPORT. The result views: the 16-bit value of two response bytes (R66) and the status enumeration (R202). -/

namespace Sys2Proof

/-- R66: q1 is the high byte. -/
theorem toNat_u16 (hi lo : Byte) : (u16 hi lo).toNat = hi.toNat * 256 + lo.toNat := by
  have hhi : hi.toNat < 2 ^ 8 := hi.isLt
  have hlo : lo.toNat < 2 ^ 8 := lo.isLt
  calc
    _ = hi.toNat <<< 8 ||| lo.toNat := by
      simp only [u16, BitVec.toNat_or, BitVec.toNat_shiftLeft, BitVec.toNat_setWidth]
      rw [Nat.mod_eq_of_lt (show hi.toNat < 2 ^ 16 by omega), Nat.mod_eq_of_lt (show lo.toNat < 2 ^ 16 by omega),
        Nat.mod_eq_of_lt (by rw [Nat.shiftLeft_eq]; omega)]
    _ = hi.toNat * 256 + lo.toNat := by rw [← Nat.shiftLeft_add_eq_or_of_lt hlo, Nat.shiftLeft_eq]

/-- R202: a byte outside R101's code set is unknown. -/
theorem statusOf_unknown {s : Byte}
    (h : s ∉ ([0x00, 0x01, 0x04, 0x05, 0x07, 0x08, 0x0A, 0x10, 0x11, 0x12, 0x13, 0x14, 0x18] : List Byte)) :
    statusOf s = .unknown s := by
  simp only [List.mem_cons, List.not_mem_nil, or_false, not_or] at h
  simp only [statusOf, h, if_false]

namespace Machine

/-- Settles O59: `toNat_u16`, the enumeration's own entries, `statusOf_unknown`, and `typeCheck_eq` for both kinds of response. -/
theorem resultViews : Obligations.ResultViews := by
  refine ⟨toNat_u16, rfl, rfl, rfl, rfl, rfl, rfl, rfl, rfl, rfl, rfl, rfl, rfl, rfl, fun _ => statusOf_unknown,
    fun e t s => ⟨?_, ?_⟩⟩
  · simp [typeCheck_eq, statusFail]
  · simp [typeCheck_eq]

end Machine

end Sys2Proof
end

section
/-! SUPPORT. The decoder and the encoder are each other's inverse at every port (R91 to R95, R99, R100). -/

namespace Sys2Proof

variable {bs rest : List Byte} {i : Instr}

/-! ### Each port's decoder, by the unit it reads -/

theorem takeFrame_eq_ok_iff {f : Frame} : takeFrame bs = .ok (f, rest) ↔ bs = f.toList ++ rest :=
  ⟨takeFrame_ok, by rintro rfl; exact takeFrame_append f rest⟩

theorem decode_ctrl_eq_ok_iff :
    decode .ctrl bs = .ok (i, rest) ↔ ∃ v, bs = v :: rest ∧ decodeCtrl v = .ok i := by
  cases bs with
  | nil => simp [decode]
  | cons v bs => cases hv : decodeCtrl v <;> simp [decode, hv, and_comm]

theorem decode_tx_eq_ok_iff :
    decode .tx bs = .ok (i, rest) ↔ ∃ f, bs = f.toList ++ rest ∧ decodeCmdFrame f = .ok i := by
  simp only [← takeFrame_eq_ok_iff]
  cases hf : takeFrame bs with
  | error e => simp [decode, hf]
  | ok u => cases hi : decodeCmdFrame u.1 <;> simp [decode, hf, hi, Prod.ext_iff, and_comm]

theorem decode_rxFrame_eq_ok_iff :
    decode .rxFrame bs = .ok (i, rest) ↔ ∃ f, bs = f.toList ++ rest ∧ decodeAckFrame f = .ok i := by
  simp only [← takeFrame_eq_ok_iff]
  cases hf : takeFrame bs with
  | error e => simp [decode, hf]
  | ok u => cases hi : decodeAckFrame u.1 <;> simp [decode, hf, hi, Prod.ext_iff, and_comm]

/-! ### From the encoding to the instruction -/

/-- R93, R121: a command frame's own bytes pass every test of the decoder; well-formedness keeps them from R95's named row. -/
theorem decodeCmdFrame_encodeCommand {o p1 p2 p3 : Byte} (h : (Instr.cmdFrame o p1 p2 p3).wellFormed = true) :
    decodeCmdFrame (encodeCommand o p1 p2 p3) = .ok (.cmdFrame o p1 p2 p3) := by
  have hrow : ¬(o = 0x09 ∧ p1 = 0 ∧ p2 = 0 ∧ p3 = 0) := by
    rintro ⟨rfl, rfl, rfl, rfl⟩
    cases h
  simpa [decodeCmdFrame, encodeCommand, checksum] using hrow

theorem decodeAckFrame_ackBytes (t q1 q2 st r k z : Byte) :
    decodeAckFrame (ackBytes t q1 q2 st r k z) = .ok (.ackFrame t q1 q2 st r k z) := rfl

/-- R99, R100: the first marker after the leading one is the package's own trailing marker. -/
theorem decodePackage_encode {chars : List Byte} (h : (Instr.dataPackage chars).wellFormed = true) (rest : List Byte) :
    decodePackage (encode (.dataPackage chars) ++ rest) = .ok (.dataPackage chars, rest) := by
  simp only [Instr.wellFormed, Bool.and_eq_true] at h
  obtain ⟨hne, hno⟩ := h
  cases chars with
  | nil => cases hne
  | cons c cs =>
    have hcut : splitAtMarker (c :: (cs ++ marker :: rest)) = some (c :: cs, rest) := splitAtMarker_append hno rest
    simp [encode, decodePackage, hcut]

/-- Settles O3: by the port's unit, whose bytes decode to the instruction that `encode` built them from. -/
theorem decodeOfEncodeIsTheInstruction : Obligations.DecodeOfEncodeIsTheInstruction := by
  intro i rest h
  cases i with
  | cmdFrame o p1 p2 p3 => exact decode_tx_eq_ok_iff.2 ⟨_, rfl, decodeCmdFrame_encodeCommand h⟩
  | wireCmdGetUserCount => exact decode_tx_eq_ok_iff.2 ⟨encodeCommand 0x09 0 0 0, rfl, rfl⟩
  | ackFrame t q1 q2 st r k z => exact decode_rxFrame_eq_ok_iff.2 ⟨_, rfl, decodeAckFrame_ackBytes t q1 q2 st r k z⟩
  | dataPackage chars => exact decodePackage_encode h rest
  | _ => exact decode_ctrl_eq_ok_iff.2 ⟨_, rfl, rfl⟩

/-! ### From the bytes to the instruction -/

/-- Settles O4: by the port, whose unit is the encoding of the instruction it decodes to. -/
theorem decodedBytesAreTheEncoding : Obligations.DecodedBytesAreTheEncoding := by
  intro p bs rest i h
  cases p with
  | ctrl =>
    obtain ⟨v, rfl, hv⟩ := decode_ctrl_eq_ok_iff.1 h
    obtain ⟨hwf, hp, he⟩ := decodeCtrl_ok hv
    exact ⟨hwf, hp, by rw [he, List.singleton_append]⟩
  | tx =>
    obtain ⟨f, rfl, hf⟩ := decode_tx_eq_ok_iff.1 h
    obtain ⟨hwf, hp, he⟩ := decodeCmdFrame_ok hf
    exact ⟨hwf, hp, by rw [he]⟩
  | rxFrame =>
    obtain ⟨f, rfl, hf⟩ := decode_rxFrame_eq_ok_iff.1 h
    obtain ⟨hwf, hp, he⟩ := decodeAckFrame_ok hf
    exact ⟨hwf, hp, by rw [he]⟩
  | rxPackage => exact decodePackage_ok h

/-! ### The values and words written out -/

/-- Settles O1: the six values compute, and `exists_decodeCtrl_ok_iff` tells them from all others. -/
theorem ctrlValuesNameSixOperations : Obligations.CtrlValuesNameSixOperations :=
  ⟨rfl, rfl, rfl, rfl, rfl, rfl, exists_decodeCtrl_ok_iff⟩

/-- Settles O2: each word is the encoding of a well-formed instruction, so O3's round trip decodes it. -/
theorem writtenWordsDecode : Obligations.WrittenWordsDecode :=
  ⟨decodeOfEncodeIsTheInstruction .exchangeOp [] rfl,
    decodeOfEncodeIsTheInstruction (.cmdFrame 0x01 0x12 0x34 0x56) [] rfl,
    decodeOfEncodeIsTheInstruction .wireCmdGetUserCount [] rfl,
    decodeOfEncodeIsTheInstruction (.ackFrame 0x09 0x00 0x05 0x00 0x00 0x0C 0xF5) [] rfl,
    decodeOfEncodeIsTheInstruction (.dataPackage [0x41, 0x42, 0x31, 0x32]) [0x99] rfl⟩

end Sys2Proof
end

section
/-! SUPPORT. The codec's laws (R126), by the syndrome: the exclusive-or of a frame's checksum with its offset 6. A frame is valid
exactly when it is zero, and replacing a byte of offsets 1 to 6 adds the old and the new byte to it. -/

namespace Sys2Proof

/-- What offsets 1 to 6 sum up to; R120 and R122 make a frame valid exactly when it is zero. -/
def Frame.syndrome (f : Frame) : Byte := checksum f ^^^ f.o6

theorem decodeAck_valid_iff_syndrome {f : Frame} : (decodeAck f).valid = true ↔ f.syndrome = 0#8 :=
  beq_iff_eq.trans BitVec.xor_eq_zero_iff.symm

section Syndrome

variable (f : Frame) {j k : Nat}

/-! ### The syndrome under a change of bytes -/

/-- The new byte stands for the old one in the sum. -/
theorem Frame.syndrome_set (h1 : 1 ≤ k) (h6 : k ≤ 6) (v : Byte) :
    (f.set k v).syndrome ^^^ f.get k = f.syndrome ^^^ v := by
  obtain rfl | rfl | rfl | rfl | rfl | rfl : k = 1 ∨ k = 2 ∨ k = 3 ∨ k = 4 ∨ k = 5 ∨ k = 6 := by omega
  all_goals
    simp only [syndrome, checksum, set, get]
    ac_rfl

theorem Frame.syndrome_flip (h1 : 1 ≤ k) (h6 : k ≤ 6) (m : Byte) : (f.flip k m).syndrome = f.syndrome ^^^ m := by
  have hset : (f.flip k m).syndrome ^^^ f.get k = f.syndrome ^^^ (f.get k ^^^ m) := f.syndrome_set h1 h6 _
  exact (BitVec.xor_left_inj _).1 (hset.trans (by ac_rfl))

theorem Frame.syndrome_flip_flip (hj1 : 1 ≤ j) (hj6 : j ≤ 6) (hk1 : 1 ≤ k) (hk6 : k ≤ 6) (m : Byte) :
    ((f.flip j m).flip k m).syndrome = f.syndrome := by
  rw [syndrome_flip _ hk1 hk6, syndrome_flip _ hj1 hj6, BitVec.xor_assoc, BitVec.xor_self, BitVec.xor_zero]

/-- After the first byte is replaced, offset k still holds its old byte, even where j = k. -/
theorem Frame.syndrome_swap (hj1 : 1 ≤ j) (hj6 : j ≤ 6) (hk1 : 1 ≤ k) (hk6 : k ≤ 6) :
    ((f.set j (f.get k)).set k (f.get j)).syndrome = f.syndrome := by
  have hget : (f.set j (f.get k)).get k = f.get k := by
    rw [f.get_set _ (by omega) (by omega), ite_self]
  have hset := (f.set j (f.get k)).syndrome_set hk1 hk6 (f.get j)
  rw [hget, f.syndrome_set hj1 hj6] at hset
  exact (BitVec.xor_left_inj _).1 hset

/-- R126: a change of offset 5 that offset 6 follows is two equal flips. -/
theorem Frame.flip_reserved_flip_cksum (a : Byte) :
    (f.flip 5 (f.o5 ^^^ a)).flip 6 (f.o5 ^^^ a) = { f with o5 := a, o6 := f.o6 ^^^ f.o5 ^^^ a } := by
  simp [flip, set, get, ← BitVec.xor_assoc]

/-! ### The checksum alone -/

/-- Offset 6 is outside the body, so the checksum takes the whole change of the syndrome. -/
theorem checksum_flip (h1 : 1 ≤ k) (h5 : k ≤ 5) (m : Byte) : checksum (f.flip k m) = checksum f ^^^ m := by
  have ho6 : (f.flip k m).o6 = f.o6 := (f.get_set (j := 6) _ (by omega) (by omega)).trans (if_neg (by omega))
  have hs : checksum (f.flip k m) ^^^ (f.flip k m).o6 = checksum f ^^^ f.o6 ^^^ m := f.syndrome_flip h1 (by omega) m
  rw [ho6] at hs
  exact (BitVec.xor_left_inj _).1 (hs.trans (by ac_rfl))

theorem checksum_xor (g : Frame) :
    checksum ⟨f.o0 ^^^ g.o0, f.o1 ^^^ g.o1, f.o2 ^^^ g.o2, f.o3 ^^^ g.o3, f.o4 ^^^ g.o4, f.o5 ^^^ g.o5, f.o6 ^^^ g.o6,
      f.o7 ^^^ g.o7⟩ = checksum f ^^^ checksum g := by
  simp only [checksum]
  ac_rfl

end Syndrome

/-! ### The laws -/

namespace Machine

/-- Settles O7: each clause on validity is what its change does to the syndrome. -/
theorem codecLaws : Obligations.CodecLaws := by
  simp only [Obligations.CodecLaws, decodeAck_valid_iff_syndrome, ← Bool.not_eq_true]
  refine ⟨fun _ _ _ _ => decodeAck_valid rfl, fun f k b h1 h5 _ => checksum_flip f h1 h5 _, ?detect, ?twoFlips, ?swap,
    ?unread, checksum_xor⟩
  case detect =>
    intro f k b h1 h6 hb hv
    rw [f.syndrome_flip h1 h6, hv, BitVec.zero_xor]
    exact (by decide : ∀ b < 8, 1#8 <<< b ≠ 0#8) b hb
  case twoFlips =>
    intro f j k b hj1 hj6 hk1 hk6 _ _ hv
    rw [f.syndrome_flip_flip hj1 hj6 hk1 hk6, hv]
  case swap =>
    intro f j k hj1 hj5 hk1 hk5 hv
    rw [f.syndrome_swap hj1 (by omega) hk1 (by omega), hv]
  case unread =>
    intro f a b hv
    refine ⟨hv, ?_⟩
    rw [← f.flip_reserved_flip_cksum, f.syndrome_flip_flip (by omega) (by omega) (by omega) (by omega), hv]

end Machine

end Sys2Proof
end

section
/-! SUPPORT. The command frame (R121) and the completions of ENCODE, CHECKSUM and DECODE (R123 to R125). -/

namespace Sys2Proof.Machine

open Sys2Proof

/-- Settles O6: `toList_encodeCommand`. -/
theorem commandFrameLayout : Obligations.CommandFrameLayout := toList_encodeCommand

/-- R121: a frame is its eight bytes. -/
theorem encodeCommand_eq (o p1 p2 p3 : Byte) :
    encodeCommand o p1 p2 p3 = ⟨0xF5, o, p1, p2, p3, 0x00, o ^^^ p1 ^^^ p2 ^^^ p3, 0xF5⟩ :=
  congrArg Frame.ofBytes (toList_encodeCommand o p1 p2 p3)

/-- Settles O8: with BUSY = 0 the step is `encodeEffect`, whose frame `encodeCommand_eq` gives. -/
theorem encodeCompletes : Obligations.EncodeCompletes := by
  intro s hb
  rw [← encodeCommand_eq]
  exact request_idle encodeEffect hb

/-- Settles O9: with BUSY = 0 the step is `checksumEffect`. -/
theorem checksumCompletes : Obligations.ChecksumCompletes := fun _ hb => request_idle checksumEffect hb

/-- Settles O10: with BUSY = 0 the step is `decodeEffect`, and `decodeEffect_eq` says what it writes in each case. -/
theorem decodeCompletes : Obligations.DecodeCompletes := by
  intro s hb
  have hexec : exec .decodeOp s = .next (decodeEffect s) := request_idle decodeEffect hb
  rw [hexec, decodeEffect_eq]
  constructor
  · intro (hv : checksum s.frameIn = s.frameIn.o6)
    simp [hv, statusFail]
  · intro (hv : checksum s.frameIn ≠ s.frameIn.o6)
    simp [hv, statusFail]

end Sys2Proof.Machine
end

section
/-! SUPPORT. EXCHANGE's acceptance (R141) and its ticks (R142 to R148): one lemma for each branch of a tick. -/

namespace Sys2Proof.Machine

open Sys2Proof

variable {s t : State}

/-! ### The branches of a tick -/

theorem ctlTick_txWait_sent (hf : s.fsm = fsmTxWait) (hq : s.txq = []) :
    ctlTick s = .next { s with outerCnt := s.cfg.budgetTicks, fsm := fsmWait } := by
  rw [ctlTick_txWait hf, txWaitTick, if_pos (by simp [txDone, hq])]

theorem ctlTick_txWait_sending (hf : s.fsm = fsmTxWait) (hq : s.txq ≠ []) : ctlTick s = .next s := by
  rw [ctlTick_txWait hf, txWaitTick, if_neg (by simpa [txDone] using hq)]

theorem ctlTick_wait_ready (hf : s.fsm = fsmWait) (h0 : s.outerCnt ≠ 0) (hn : 8 ≤ s.rxq.length) :
    ctlTick s = .next { s with
      outerCnt := s.outerCnt - 1, resyncCnt := s.cfg.budgetTicks, fsm := fsmResync } := by
  rw [ctlTick_wait hf, waitTick, if_neg h0]
  exact congrArg _ (waitPoll_ready hn)

theorem ctlTick_wait_more (hf : s.fsm = fsmWait) (h0 : s.outerCnt ≠ 0) (hn : s.rxq.length < 8) :
    ctlTick s = .next { s with outerCnt := s.outerCnt - 1 } := by
  rw [ctlTick_wait hf, waitTick, if_neg h0]
  exact congrArg _ (waitPoll_more hn)

theorem ctlTick_resync_empty (hf : s.fsm = fsmResync) (h0 : s.resyncCnt ≠ 0) (hq : s.rxq = []) :
    ctlTick s = .next { s with resyncCnt := s.resyncCnt - 1 } := by
  rw [ctlTick_resync hf, resyncTick, if_neg h0]
  exact resyncPoll_empty hq

theorem ctlTick_resync_discard (hf : s.fsm = fsmResync) (h0 : s.resyncCnt ≠ 0) {b : Byte} {q : List Byte}
    (hq : s.rxq = b :: q) (hb : b ≠ marker) :
    ctlTick s = .next { s with resyncCnt := s.resyncCnt - 1, rxq := q } := by
  rw [ctlTick_resync hf, resyncTick, if_neg h0]
  exact resyncPoll_discard hq hb

theorem ctlTick_resync_back (hf : s.fsm = fsmResync) (h0 : s.resyncCnt ≠ 0) {q : List Byte}
    (hq : s.rxq = marker :: q) (hn : q.length < 7) :
    ctlTick s = .next { s with resyncCnt := s.resyncCnt - 1, fsm := fsmWait } := by
  have hlen : s.rxq.length < 8 := by rw [hq, List.length_cons]; omega
  rw [ctlTick_resync hf, resyncTick, if_neg h0]
  exact resyncPoll_back hq hlen

/-- R148: either budget, once exhausted, ends the exchange before RXQ is looked at. -/
theorem ctlTick_exchangeTimeout (h : (s.fsm = fsmWait ∧ s.outerCnt = 0) ∨ (s.fsm = fsmResync ∧ s.resyncCnt = 0)) :
    ctlTick s = .next (exchangeTimeout s) := by
  rcases h with ⟨hf, h0⟩ | ⟨hf, h0⟩
  · rw [ctlTick_wait hf, waitTick, if_pos h0]
  · rw [ctlTick_resync hf, resyncTick, if_pos h0]

section Ack
variable {ty q1 q2 st r k z : Byte} {q : List Byte}

theorem ctlTick_resync_validAck (hf : s.fsm = fsmResync) (h0 : s.resyncCnt ≠ 0)
    (hq : s.rxq = (ackBytes ty q1 q2 st r k z).toList ++ q) (hk : ty ^^^ q1 ^^^ q2 ^^^ st ^^^ r = k) :
    ctlTick s = .next (exchangeSuccess (decodeAck (ackBytes ty q1 q2 st r k z))
      { s with resyncCnt := s.resyncCnt - 1, rxq := q, rxf := ackBytes ty q1 q2 st r k z }) :=
  (ctlTick_resync hf).trans (resyncTick_valid h0 hq rfl hk)

theorem ctlTick_resync_invalidAck (hf : s.fsm = fsmResync) (h0 : s.resyncCnt ≠ 0)
    (hq : s.rxq = (ackBytes ty q1 q2 st r k z).toList ++ q) (hk : ty ^^^ q1 ^^^ q2 ^^^ st ^^^ r ≠ k) :
    ctlTick s = .next (exchangeChecksumFail
      { s with resyncCnt := s.resyncCnt - 1, rxq := q, rxf := ackBytes ty q1 q2 st r k z }) :=
  (ctlTick_resync hf).trans (resyncTick_invalid h0 hq rfl hk)

end Ack

/-! ### The statements on one step -/

/-- Settles O12: with BUSY = 0 the step is `exchangeAccept`, whose frame `encodeCommand_eq` gives. -/
theorem exchangeIsAccepted : Obligations.ExchangeIsAccepted := by
  intro s hb
  rw [← encodeCommand_eq, ← toList_encodeCommand]
  exact request_idle exchangeAccept hb

/-- Settles O29: the two branches of a TX_WAIT tick. -/
theorem txWaitTickLoadsTheBudget : Obligations.TxWaitTickLoadsTheBudget := fun _ _ hf hi =>
  ⟨fun hq => (step_tick hi).trans (ctlTick_txWait_sent hf hq),
    fun hq => (step_tick hi).trans (ctlTick_txWait_sending hf hq)⟩

/-- Settles O30: the two branches of a WAIT tick with budget left. -/
theorem waitTickCountsAndChecks : Obligations.WaitTickCountsAndChecks := fun _ _ hf hi h0 =>
  ⟨fun hn => (step_tick hi).trans (ctlTick_wait_ready hf h0 hn),
    fun hn => (step_tick hi).trans (ctlTick_wait_more hf h0 hn)⟩

/-- Settles O31: the three branches of a RESYNC tick with budget left that read no frame. -/
theorem resyncTickDiscardsOrGoesBack : Obligations.ResyncTickDiscardsOrGoesBack := fun s rest hf hi h0 =>
  ⟨fun hq => (step_tick hi).trans (ctlTick_resync_empty hf h0 hq),
    fun _ _ hq hb => (step_tick hi).trans (ctlTick_resync_discard (s := { s with inputs := rest }) hf h0 hq hb),
    fun _ hq hn => (step_tick hi).trans (ctlTick_resync_back hf h0 hq hn)⟩

/-- Settles O32: the tick is `exchangeSuccess`, and `exchangeSuccess_eq` says what it writes. -/
theorem exchangeSucceedsWithoutFlush : Obligations.ExchangeSucceedsWithoutFlush := by
  intro s rest t q1 q2 st r k z q hf hi h0 hq hk
  rw [step_tick hi, ctlTick_resync_validAck (s := { s with inputs := rest }) hf h0 hq hk, exchangeSuccess_eq]
  rfl

/-- Settles O33: the tick is `exchangeFail` with the status FAIL (`exchangeFail_eq`). -/
theorem exchangeFailsOnChecksumAndFlushes : Obligations.ExchangeFailsOnChecksumAndFlushes :=
  fun _ _ _ _ _ _ _ _ _ _ hf hi h0 hq hk => (step_tick hi).trans (ctlTick_resync_invalidAck hf h0 hq hk)

/-- Settles O34: the tick is `exchangeFail` with the status SERIAL_TIMEOUT (`exchangeFail_eq`). -/
theorem exchangeTimesOutAndFlushes : Obligations.ExchangeTimesOutAndFlushes :=
  fun _ _ hi h => (step_tick hi).trans (ctlTick_exchangeTimeout h)

/-- R142: a tick leaves TX_WAIT only with TXQ empty. -/
theorem TickEffect.fsm_txWait (h : TickEffect s t) (hf : s.fsm = fsmTxWait) (hq : s.txq ≠ []) : t.fsm = fsmTxWait := by
  cases h with
  | txWaiting => exact hf
  | txDone _ hq' => exact absurd hq' hq
  | idle hf' | waitTimeout hf' | waitReady hf' | waitMore hf' | resyncTimeout hf' | resyncEmpty hf' | resyncDiscard hf'
  | resyncBack hf' | readValid hf' | readInvalid hf' | syncTimeout hf' | syncEmpty hf' | syncMarker hf' | syncDiscard hf'
  | readTimeout hf' | readEmpty hf' | pkgDone hf' | pkgEmptyPayload hf' | pkgFull hf' | pkgChar hf' =>
    exact absurd (hf.symm.trans hf') (by decide)

/-- Settles O49: while BUSY = 1 no operation is accepted, and a tick stays in TX_WAIT. -/
theorem txWaitHoldsUntilDrained : Obligations.TxWaitHoldsUntilDrained := by
  intro s t hb hf hq h
  cases (step_cases h).resultEffect with
  | quiet hf' _ => exact .inl (hf'.trans hf)
  | tick _ he => exact .inl (he.fsm_txWait hf hq)
  | reset hi => exact .inr ⟨_, hi⟩
  | accept _ hb' => rw [hb] at hb'; cases hb'

end Sys2Proof.Machine
end

section
/-! SUPPORT. Whole exchanges: the runs of R152 and R153 from the branches of a tick, and R150's bound from a count of the ticks
left that every tick brings down. -/

namespace Sys2Proof.Machine

open Sys2Proof

variable {s t : State}

/-! ### Runs of given length -/

/-- With no inputs left each step is a tick (log entry 1). -/
theorem run_succ_tick {k : Nat} (hi : s.inputs = []) (h : ctlTick s = .next t) : run (k + 1) s = run k t :=
  run_succ k ((step_nil hi).trans h)

/-- Settles O54: one tick for each unit of the budget left, then the timeout. -/
theorem fewerThanEightBytesTimeOut : Obligations.FewerThanEightBytesTimeOut := by
  intro s hf hi hn
  induction hc : s.outerCnt generalizing s with
  | zero =>
    rw [run_succ_tick hi (ctlTick_exchangeTimeout (.inl ⟨hf, hc⟩)), run_zero, ← hc]
    rfl
  | succ n ih =>
    rw [run_succ_tick hi (ctlTick_wait_more hf (by omega) hn), hc]
    exact ih { s with outerCnt := n } hf hi hn rfl

/-- R71: a run of bytes for which RXQ has room enters it whole. -/
theorem linePushAll_room {bs : List Byte} (h : s.rxq.length + bs.length ≤ s.cfg.rxDepth) :
    linePushAll bs s = { s with rxq := s.rxq ++ bs } := by
  have hno : ¬ s.cfg.rxDepth < s.rxq.length + bs.length := by omega
  rw [linePushAll_eq, List.take_of_length_le (by omega)]
  simp [hno]

/-- R142, R143, R153: the delivery of eight bytes and two ticks take a drained exchange to RESYNC, before the tick that reads
the frame. -/
theorem run_delivery_to_resync {f : Frame} {rest : List Input} (hcfg : s.cfg.Valid) (hf : s.fsm = fsmTxWait)
    (htx : s.txq = []) (hrx : s.rxq = []) (hi : s.inputs = .rxFrame f.toList :: .tick :: .tick :: rest) (k : Nat) :
    run (k + 3) s = run k { s with
      inputs := rest, rxq := f.toList, outerCnt := s.cfg.budgetTicks - 1, resyncCnt := s.cfg.budgetTicks
      fsm := fsmResync } := by
  have hbudget := hcfg.budget
  have hpush : step s = .next { s with inputs := .tick :: .tick :: rest, rxq := f.toList } := by
    have hroom : s.rxq.length + f.toList.length ≤ s.cfg.rxDepth := by simpa [hrx] using hcfg.depth
    have hdeliver : step s = deliverInbound .rxFrame f.toList { s with inputs := .tick :: .tick :: rest } :=
      step_cons hi nofun
    rw [hdeliver, deliverInbound_eq (.inl rfl), linePushAll_room (by exact hroom), hrx]
    rfl
  calc run (k + 3) s
      = run (k + 2) _ := run_succ _ hpush
    _ = run (k + 1) _ := run_succ _ ((step_tick rfl).trans (ctlTick_txWait_sent hf htx))
    _ = run k _ := run_succ _ ((step_tick rfl).trans (ctlTick_wait_ready rfl (Nat.ne_of_gt hbudget) le_rfl))

/-- Settles O55: `run_delivery_to_resync`, then the tick of O32 or O33. -/
theorem ackIsReadInThreeTicks : Obligations.AckIsReadInThreeTicks := by
  intro s t q1 q2 st r k z rest hcfg hf htx hrx hi
  have hbudget : s.cfg.budgetTicks ≠ 0 := Nat.ne_of_gt hcfg.budget
  rw [run_delivery_to_resync (f := ackBytes t q1 q2 st r k z) hcfg hf htx hrx hi 1]
  refine ⟨fun hk => ?_, fun hk => ?_⟩
  · rw [run_succ 0 (exchangeSucceedsWithoutFlush _ rest t q1 q2 st r k z [] rfl rfl hbudget rfl hk), ← hrx]
    rfl
  · rw [run_succ 0 (exchangeFailsOnChecksumAndFlushes _ rest t q1 q2 st r k z [] rfl rfl hbudget rfl hk), ← hrx]
    rfl

/-- R144: RESYNC ticks discard bytes without the marker, one each. -/
theorem run_resync_discard {g q : List Byte} {k : Nat} (hf : s.fsm = fsmResync) (hi : s.inputs = []) (hg : marker ∉ g)
    (hn : g.length ≤ s.resyncCnt) (hq : s.rxq = g ++ q) :
    run (g.length + k) s = run k { s with resyncCnt := s.resyncCnt - g.length, rxq := q } := by
  induction g generalizing s with
  | nil => rw [List.length_nil, Nat.zero_add, Nat.sub_zero, ← hq.trans q.nil_append]
  | cons b g ih =>
    obtain ⟨hb, hg⟩ := not_or.1 (List.mem_cons.not.1 hg)
    rw [List.length_cons] at hn
    calc run ((b :: g).length + k) s
        = run (g.length + k + 1) s := by rw [List.length_cons, Nat.add_right_comm]
      _ = run (g.length + k) _ := run_succ_tick hi (ctlTick_resync_discard hf (by omega) hq (Ne.symm hb))
      _ = run k _ := ih (s := { s with resyncCnt := s.resyncCnt - 1, rxq := g ++ q }) hf hi hg (Nat.le_sub_of_add_le hn) rfl
      _ = run k { s with resyncCnt := s.resyncCnt - (b :: g).length, rxq := q } := by
        rw [Nat.sub_sub, Nat.add_comm 1, List.length_cons]

/-- Settles O56: a tick to RESYNC, `run_resync_discard` for the garbage, and the tick that reads the frame. -/
theorem garbageIsSkippedToTheFrame : Obligations.GarbageIsSkippedToTheFrame := by
  intro s g q t q1 q2 st r k z hf hi h0 hg hlt hq hk
  rw [List.append_assoc] at hq
  have hn : 8 ≤ s.rxq.length := by simp only [hq, List.length_append, List.length_cons]; omega
  have hleft : s.cfg.budgetTicks - g.length ≠ 0 := by omega
  calc run (g.length + 2) s
      = run (g.length + 1) _ := run_succ_tick hi (ctlTick_wait_ready hf h0 hn)
    _ = run 1 _ := run_resync_discard rfl hi hg hlt.le hq
    _ = .next _ := run_succ_tick hi (ctlTick_resync_validAck rfl hleft rfl hk)
    _ = _ := by rw [exchangeSuccess_eq, Nat.sub_add_eq]; rfl

/-! ### Inputs without a reset and a wait -/

/-- R223: the operation has completed. -/
def State.Completed (t : State) : Prop := t.fsm = fsmIdle ∧ t.stat.done = true ∧ t.stat.busy = false

/-- R34, R35: the phase and the counters stay, and so does the budget. -/
def State.SameProgress (s t : State) : Prop :=
  t.fsm = s.fsm ∧ t.outerCnt = s.outerCnt ∧ t.resyncCnt = s.resyncCnt ∧ t.cfg = s.cfg

/-- Log entry 1: a tick does not touch the steps to come. -/
theorem TickEffect.inputs (h : TickEffect s t) : t.inputs = s.inputs := by
  cases h <;> rfl

/-- Log entry 1: no agent's step touches the steps to come. -/
theorem AgentEffect.inputs {e : Input} (h : AgentEffect e s t) : t.inputs = s.inputs := by
  cases h with
  | tick _ he => exact he.inputs
  | store => rw [hostStore_eq]
  | illegal => rw [requestIllegal_eq]
  | decode => rw [decodeEffect_eq]
  | push => rw [linePushAll_eq]
  | drain => rw [lineDrainN_eq]
  | _ => rfl

/-- R222: while BUSY = 1, every agent's step but a tick and a reset leaves the operation's progress. -/
theorem AgentEffect.sameProgress {e : Input} (h : AgentEffect e s t) (hp : e.isPlain = true) (ht : e ≠ .tick)
    (hb : s.stat.busy = true) : s.SameProgress t := by
  cases h with
  | tick he => exact absurd he ht
  | reset he => rw [he] at hp; cases hp
  | read | overlap => exact ⟨rfl, rfl, rfl, rfl⟩
  | store => rw [hostStore_eq]; exact ⟨rfl, rfl, rfl, rfl⟩
  | illegal => rw [requestIllegal_eq]; exact ⟨rfl, rfl, rfl, rfl⟩
  | push => rw [linePushAll_eq]; exact ⟨rfl, rfl, rfl, rfl⟩
  | drain => rw [lineDrainN_eq]; exact ⟨rfl, rfl, rfl, rfl⟩
  | encode _ hb' | checksum _ hb' | decode _ hb' | exchange _ hb' | readPkg _ hb' | checkType _ hb' =>
    rw [hb] at hb'; cases hb'

/-- R74: a step with a plain input first is that agent's step. -/
theorem agentEffect_of_step {e : Input} {rest : List Input} (hi : s.inputs = e :: rest) (hp : e.isPlain = true)
    (h : step s = .next t) : AgentEffect e { s with inputs := rest } t := by
  cases step_cases h with
  | free hi' => rw [hi] at hi'; cases hi'
  | waiting hi' | waited hi' => rw [hi] at hi'; cases hi'; cases hp
  | agent hi' _ ha => rw [hi] at hi'; cases hi'; exact ha

theorem tickCount_append (es fs : List Input) : tickCount (es ++ fs) = tickCount es + tickCount fs := by
  simp [tickCount]

theorem tickCount_of_ne_tick {e : Input} (he : e ≠ .tick) : tickCount [e] = 0 := by
  cases e with
  | tick => exact absurd rfl he
  | _ => rfl

/-- `left` bounds the ticks that an operation still takes while `going` holds: a tick completes it or brings `left` down, and any
other step that keeps its progress keeps `left`. -/
structure TickMeasure (going : State → Prop) (left : State → Nat) : Prop where
  notIdle : ∀ {s}, going s → s.fsm ≠ fsmIdle
  pos : ∀ {s}, going s → 0 < left s
  tick : ∀ {s t}, going s → TickEffect s t → t.Completed ∨ (going t ∧ left t < left s)
  other : ∀ {s t}, going s → s.SameProgress t → going t ∧ left t = left s

section Measure
variable {going : State → Prop} {left : State → Nat}

/-- R74: a step with a plain input completes the operation or lets it go on, and then a tick is counted in `left`. -/
theorem TickMeasure.step (m : TickMeasure going left) {e : Input} {rest : List Input} (h : s.Inv) (hs : going s)
    (hi : s.inputs = e :: rest) (hp : e.isPlain = true) :
    ∃ t, step s = .next t ∧ t.Inv ∧ t.inputs = rest ∧
      (t.Completed ∨ (going t ∧ left t + tickCount [e] ≤ left s)) := by
  obtain ⟨t, ht, -⟩ := step_effect h.fsmLegal
  have he := agentEffect_of_step hi hp ht
  have hsame : s.SameProgress { s with inputs := rest } := ⟨rfl, rfl, rfl, rfl⟩
  obtain ⟨hs', hleft⟩ := m.other hs hsame
  refine ⟨t, ht, everyStepKeepsInv s t h ht, he.inputs, ?_⟩
  rw [← hleft]
  by_cases htick : e = .tick
  · subst htick
    exact m.tick hs' (ctlTick_cases ((step_tick hi).symm.trans ht))
  · have hbusy : s.stat.busy = true := h.busyIff.2 (m.notIdle hs)
    obtain ⟨hgo, heq⟩ := m.other hs' (he.sameProgress hp htick hbusy)
    exact .inr ⟨hgo, by rw [tickCount_of_ne_tick htick]; exact heq.le⟩

/-- An operation completes when the plain inputs to come hold as many ticks as it has left. -/
theorem TickMeasure.completes (m : TickMeasure going left) (h : s.Inv) (hs : going s)
    (hplain : ∀ e ∈ s.inputs, e.isPlain = true) (hleft : left s ≤ tickCount s.inputs) :
    ∃ k t, k ≤ s.inputs.length ∧ run k s = .next t ∧ t.Completed := by
  induction hi : s.inputs generalizing s with
  | nil =>
    rw [hi] at hleft
    exact absurd ((m.pos hs).trans_le hleft) (lt_irrefl 0)
  | cons e rest ih =>
    rw [hi] at hplain hleft
    obtain ⟨he, hrest⟩ := List.forall_mem_cons.1 hplain
    obtain ⟨t, ht, hinv, hti, hdone | ⟨hgo, hle⟩⟩ := m.step h hs hi he
    · exact ⟨1, t, Nat.le_add_left 1 _, run_succ 0 ht, hdone⟩
    · have hcount : tickCount (e :: rest) = tickCount [e] + tickCount rest := tickCount_append [e] rest
      obtain ⟨k, u, hk, hrun, hu⟩ := ih hinv hgo (hti ▸ hrest) (by rw [hti]; omega) hti
      exact ⟨k + 1, u, Nat.succ_le_succ hk, (run_succ k ht).trans hrun, hu⟩

end Measure

/-! ### R150's bound -/

/-- R143, R144: EXCHANGE has left TX_WAIT and goes on. -/
def State.AwaitsAck (s : State) : Prop := s.fsm = fsmWait ∨ s.fsm = fsmResync

/-- R150: at most this many ticks are left: each unit of OUTER_CNT allows one check and one RESYNC of BUDGET_TICKS ticks, one more
tick times out, and a RESYNC under way has what is left of its own budget. -/
def State.exchangeTicksLeft (s : State) : Nat :=
  s.outerCnt * (s.cfg.budgetTicks + 1) + 1 + if s.fsm = fsmResync then s.resyncCnt else 0

theorem exchangeTicksLeft_wait (hf : s.fsm = fsmWait) :
    s.exchangeTicksLeft = s.outerCnt * (s.cfg.budgetTicks + 1) + 1 := by
  rw [State.exchangeTicksLeft, if_neg (by rw [hf]; decide)]

theorem exchangeTicksLeft_resync (hf : s.fsm = fsmResync) :
    s.exchangeTicksLeft = s.outerCnt * (s.cfg.budgetTicks + 1) + 1 + s.resyncCnt := by
  rw [State.exchangeTicksLeft, if_pos hf]

/-- R35, R150: no exchange past TX_WAIT has more than (BUDGET_TICKS + 1)^2 ticks left. -/
theorem exchangeTicksLeft_le (h : s.Inv) : s.exchangeTicksLeft ≤ (s.cfg.budgetTicks + 1) ^ 2 := by
  have hresync : (if s.fsm = fsmResync then s.resyncCnt else 0) ≤ s.cfg.budgetTicks := by
    split
    · exact h.resyncBound
    · exact Nat.zero_le _
  calc s.exchangeTicksLeft
      ≤ s.cfg.budgetTicks * (s.cfg.budgetTicks + 1) + 1 + s.cfg.budgetTicks :=
        Nat.add_le_add (Nat.add_le_add_right (Nat.mul_le_mul_right _ h.outerBound) 1) hresync
    _ = (s.cfg.budgetTicks + 1) ^ 2 := by ring

/-- R143, R144: a unit of OUTER_CNT pays for a check and the whole of the RESYNC it opens. -/
theorem outerCnt_unit {n : Nat} (h : n ≠ 0) (b : Nat) : n * (b + 1) = (n - 1) * (b + 1) + b + 1 := by
  obtain ⟨m, rfl⟩ := Nat.exists_eq_succ_of_ne_zero h
  rw [Nat.succ_mul, Nat.succ_sub_one, Nat.add_assoc]

/-- R142 to R148, R150: a tick of an exchange past TX_WAIT completes it or leaves it fewer ticks. -/
theorem TickEffect.exchange_progress (h : TickEffect s t) (hs : s.AwaitsAck) :
    t.Completed ∨ (t.AwaitsAck ∧ t.exchangeTicksLeft < s.exchangeTicksLeft) := by
  cases h with
  | waitTimeout | resyncTimeout | readValid | readInvalid => exact .inl ⟨rfl, rfl, rfl⟩
  | waitReady hf h0 =>
    have hunit := outerCnt_unit h0 s.cfg.budgetTicks
    refine .inr ⟨.inr rfl, lt_of_eq_of_lt (exchangeTicksLeft_resync rfl) ?_⟩
    rw [exchangeTicksLeft_wait hf]
    show (s.outerCnt - 1) * (s.cfg.budgetTicks + 1) + 1 + s.cfg.budgetTicks < _
    omega
  | waitMore hf h0 =>
    have hunit := outerCnt_unit h0 s.cfg.budgetTicks
    refine .inr ⟨.inl hf, lt_of_eq_of_lt (exchangeTicksLeft_wait hf) ?_⟩
    rw [exchangeTicksLeft_wait hf]
    show (s.outerCnt - 1) * (s.cfg.budgetTicks + 1) + 1 < _
    omega
  | resyncEmpty hf h0 | resyncDiscard hf h0 =>
    refine .inr ⟨.inr hf, lt_of_eq_of_lt (exchangeTicksLeft_resync hf) ?_⟩
    rw [exchangeTicksLeft_resync hf]
    exact Nat.add_lt_add_left (Nat.sub_one_lt h0) _
  | resyncBack hf h0 =>
    refine .inr ⟨.inl rfl, lt_of_eq_of_lt (exchangeTicksLeft_wait rfl) ?_⟩
    rw [exchangeTicksLeft_resync hf]
    exact Nat.lt_add_of_pos_right (Nat.pos_of_ne_zero h0)
  | idle hf' | txDone hf' | txWaiting hf' | syncTimeout hf' | syncEmpty hf' | syncMarker hf' | syncDiscard hf'
  | readTimeout hf' | readEmpty hf' | pkgDone hf' | pkgEmptyPayload hf' | pkgFull hf' | pkgChar hf' =>
    rcases hs with hf | hf <;> exact absurd (hf.symm.trans hf') (by decide)

/-- R150: progress is all that the bound speaks of. -/
theorem State.SameProgress.exchange (h : s.SameProgress t) (hs : s.AwaitsAck) :
    t.AwaitsAck ∧ t.exchangeTicksLeft = s.exchangeTicksLeft := by
  obtain ⟨hf, hout, hres, hcfg⟩ := h
  exact ⟨by rwa [State.AwaitsAck, hf], by simp only [State.exchangeTicksLeft, hf, hout, hres, hcfg]⟩

/-- R150: `exchangeTicksLeft` counts down an exchange past TX_WAIT. -/
theorem exchange_tickMeasure : TickMeasure State.AwaitsAck State.exchangeTicksLeft where
  notIdle := by
    rintro s (hf | hf) <;> rw [hf] <;> decide
  pos _ := Nat.add_pos_left (Nat.succ_pos _) _
  tick hs he := he.exchange_progress hs
  other hs h := h.exchange hs

/-- Settles O52: `exchange_tickMeasure` counts the ticks left down, and `exchangeTicksLeft_le` bounds them. -/
theorem exchangeEndsWithinTheSquaredBudget : Obligations.ExchangeEndsWithinTheSquaredBudget :=
  fun _ h hs hplain hticks => exchange_tickMeasure.completes h hs hplain ((exchangeTicksLeft_le h).trans hticks)

end Sys2Proof.Machine
end

section
/-! SUPPORT. READ_PKG: its acceptance (R181), its ticks (R182 to R186), whole package reads (R187) and R261's bound. -/

namespace Sys2Proof.Machine

open Sys2Proof

variable {s t : State}

/-! ### PKG_HEX_OK's equation -/

/-- R33, R184: PKG_HEX_OK's equation, index by index. -/
theorem pkgIsHex_iff :
    s.pkgIsHex = true ↔ 0 < s.pkgLen.toNat ∧ s.pkgLen.toNat % 2 = 0 ∧
      ∀ k, k < s.pkgLen.toNat → isHexChar (s.pkgBuf.getD k 0x00) = true := by
  simp [State.pkgIsHex, State.pkgChars, State.pkgChar, and_assoc]

/-- R33: the characters '0' to '9' and 'A' to 'F'. -/
theorem isHexChar_iff {c : Byte} :
    isHexChar c = true ↔ (0x30 ≤ c.toNat ∧ c.toNat ≤ 0x39) ∨ (0x41 ≤ c.toNat ∧ c.toNat ≤ 0x46) := by
  simp [isHexChar]

/-! ### The branches of a tick -/

theorem ctlTick_pkgSync_poll (hf : s.fsm = fsmPkgSync) (h0 : s.outerCnt ≠ 0) :
    ctlTick s = pkgSyncPoll { s with outerCnt := s.outerCnt - 1 } :=
  (ctlTick_pkgSync hf).trans (if_neg h0)

theorem ctlTick_pkgRead_poll (hf : s.fsm = fsmPkgRead) (h0 : s.outerCnt ≠ 0) :
    ctlTick s = pkgReadPoll { s with outerCnt := s.outerCnt - 1 } :=
  (ctlTick_pkgRead hf).trans (if_neg h0)

/-- R185: the one budget, once exhausted, ends either phase before RXQ is looked at. -/
theorem ctlTick_pkgTimeout (hf : s.fsm = fsmPkgSync ∨ s.fsm = fsmPkgRead) (h0 : s.outerCnt = 0) :
    ctlTick s = .next (pkgTimeout s) := by
  rcases hf with hf | hf
  · exact (ctlTick_pkgSync hf).trans (if_pos h0)
  · exact (ctlTick_pkgRead hf).trans (if_pos h0)

theorem ctlTick_pkgSync_marker {q : List Byte} (hf : s.fsm = fsmPkgSync) (h0 : s.outerCnt ≠ 0)
    (hq : s.rxq = marker :: q) :
    ctlTick s = .next { s with outerCnt := s.outerCnt - 1, rxq := q, fsm := fsmPkgRead } :=
  (ctlTick_pkgSync_poll hf h0).trans (pkgSyncPoll_marker hq)

theorem ctlTick_pkgSync_discard {b : Byte} {q : List Byte} (hf : s.fsm = fsmPkgSync) (h0 : s.outerCnt ≠ 0)
    (hq : s.rxq = b :: q) (hb : b ≠ marker) :
    ctlTick s = .next { s with outerCnt := s.outerCnt - 1, rxq := q } :=
  (ctlTick_pkgSync_poll hf h0).trans (pkgSyncPoll_discard hq hb)

theorem ctlTick_pkgRead_done {q : List Byte} (hf : s.fsm = fsmPkgRead) (h0 : s.outerCnt ≠ 0)
    (hq : s.rxq = marker :: q) (hl : 0 < s.pkgLen.toNat) :
    ctlTick s = .next (pkgSuccess { s with outerCnt := s.outerCnt - 1 }) :=
  (ctlTick_pkgRead_poll hf h0).trans (pkgReadPoll_done hq hl)

theorem ctlTick_pkgRead_full {c : Byte} {q : List Byte} (hf : s.fsm = fsmPkgRead) (h0 : s.outerCnt ≠ 0)
    (hq : s.rxq = c :: q) (hc : c ≠ marker) (hl : s.pkgLen.toNat = s.cfg.pkgMaxChars) :
    ctlTick s = .next (pkgOverflow { s with outerCnt := s.outerCnt - 1, rxq := q }) :=
  (ctlTick_pkgRead_poll hf h0).trans (pkgReadPoll_full hq hc hl)

/-- R33, R183: while PKG_LEN counts the characters, the next one goes to the end. -/
theorem ctlTick_pkgRead_append {c : Byte} {q : List Byte} (hf : s.fsm = fsmPkgRead) (h0 : s.outerCnt ≠ 0)
    (hq : s.rxq = c :: q) (hc : c ≠ marker) (hroom : s.pkgLen.toNat ≠ s.cfg.pkgMaxChars)
    (hlen : s.pkgLen.toNat = s.pkgBuf.length) :
    ctlTick s = .next { s with
      outerCnt := s.outerCnt - 1, rxq := q, pkgBuf := s.pkgBuf ++ [c], pkgLen := s.pkgLen + 1 } := by
  rw [ctlTick_pkgRead_poll hf h0, ← writeAt_length, ← hlen]
  exact pkgReadPoll_char hq hc hroom

/-! ### The statements on one step -/

/-- Settles O13: with BUSY = 0 the step is `readPkgAccept`. -/
theorem readPkgIsAccepted : Obligations.ReadPkgIsAccepted := fun _ hb => request_idle readPkgAccept hb

/-- Settles O35: the branches of `pkgSyncPoll`. -/
theorem pkgSyncTickConsumesOneByte : Obligations.PkgSyncTickConsumesOneByte := by
  intro s rest hf hi h0
  have hpoll : step s = pkgSyncPoll { s with inputs := rest, outerCnt := s.outerCnt - 1 } :=
    (step_tick hi).trans (ctlTick_pkgSync_poll hf h0)
  refine ⟨fun hq => hpoll.trans (pkgSyncPoll_empty hq), fun b q hq => hpoll.trans ?_⟩
  by_cases hb : b = 0xF5
  · rw [if_pos hb]
    exact pkgSyncPoll_marker (hq.trans (congrArg (· :: q) hb))
  · rw [if_neg hb, ← hf]
    exact pkgSyncPoll_discard hq hb

/-- Settles O36: the branches of `pkgReadPoll` that complete nothing; `getD_writeAt` reads the buffer after the write. -/
theorem pkgReadTickAccumulates : Obligations.PkgReadTickAccumulates := by
  intro s rest hf hi h0
  have hpoll : step s = pkgReadPoll { s with inputs := rest, outerCnt := s.outerCnt - 1 } :=
    (step_tick hi).trans (ctlTick_pkgRead_poll hf h0)
  refine ⟨fun hq => hpoll.trans (pkgReadPoll_empty hq), fun q hq hl => ?_, fun c q hq hc hl => ?_⟩
  · exact hpoll.trans (pkgReadPoll_emptyPayload hq (congrArg BitVec.toNat hl))
  · exact ⟨_, hpoll.trans (pkgReadPoll_char hq hc hl), fun k => getD_writeAt _ _ k c⟩

/-- Settles O37: the tick is `pkgSuccess`, and the package is not empty, so `pkgIsHex_iff` leaves the other two conditions. -/
theorem pkgSucceedsAtTheTrailingMarker : Obligations.PkgSucceedsAtTheTrailingMarker := by
  intro s rest q hf hi h0 hq hl
  have hpos : 0 < s.pkgLen.toNat := BitVec.toNat_pos_of_ne_zero hl
  refine ⟨s.pkgIsHex, ?_, ?_⟩
  · exact (step_tick hi).trans (ctlTick_pkgRead_done hf h0 hq hpos)
  · simp only [pkgIsHex_iff, isHexChar_iff, hpos, true_and]

/-- Settles O38: both ticks are `pkgFail`, with the status SERIAL_TIMEOUT or FAIL (`pkgFail_eq`). -/
theorem pkgFailureFlushesAndClears : Obligations.PkgFailureFlushesAndClears := by
  refine ⟨fun s rest hf hi h0 => ?_, fun s rest c q hf hi h0 hq hc hl => ?_⟩
  · exact (step_tick hi).trans (ctlTick_pkgTimeout hf h0)
  · exact (step_tick hi).trans (ctlTick_pkgRead_full hf h0 hq hc hl)

/-! ### Runs of given length -/

/-- R182, R187 case 1: PKG_SYNC ticks discard bytes without the marker, one each. -/
theorem run_pkgSync_discard {g q : List Byte} {k : Nat} (hf : s.fsm = fsmPkgSync) (hi : s.inputs = []) (hg : marker ∉ g)
    (hn : g.length ≤ s.outerCnt) (hq : s.rxq = g ++ q) :
    run (g.length + k) s = run k { s with outerCnt := s.outerCnt - g.length, rxq := q } := by
  induction g generalizing s with
  | nil => rw [List.length_nil, Nat.zero_add, Nat.sub_zero, ← hq.trans q.nil_append]
  | cons b g ih =>
    obtain ⟨hb, hg⟩ := not_or.1 (List.mem_cons.not.1 hg)
    rw [List.length_cons] at hn
    calc run ((b :: g).length + k) s
        = run (g.length + k + 1) s := by rw [List.length_cons, Nat.add_right_comm]
      _ = run (g.length + k) _ := run_succ_tick hi (ctlTick_pkgSync_discard hf (by omega) hq (Ne.symm hb))
      _ = run k _ := ih (s := { s with outerCnt := s.outerCnt - 1, rxq := g ++ q }) hf hi hg (Nat.le_sub_of_add_le hn) rfl
      _ = run k { s with outerCnt := s.outerCnt - (b :: g).length, rxq := q } := by
        rw [Nat.sub_sub, Nat.add_comm 1, List.length_cons]

/-- R182, R187 case 1: PKG_SYNC reads the garbage and the leading marker. -/
theorem run_pkgSync_to_pkgRead {g q : List Byte} {k : Nat} (hf : s.fsm = fsmPkgSync) (hi : s.inputs = []) (hg : marker ∉ g)
    (hn : g.length < s.outerCnt) (hq : s.rxq = g ++ marker :: q) :
    run (g.length + (k + 1)) s = run k { s with outerCnt := s.outerCnt - g.length - 1, rxq := q, fsm := fsmPkgRead } := by
  have hleft : s.outerCnt - g.length ≠ 0 := by omega
  calc run (g.length + (k + 1)) s
      = run (k + 1) { s with outerCnt := s.outerCnt - g.length, rxq := marker :: q } :=
        run_pkgSync_discard hf hi hg hn.le hq
    _ = run k _ := run_succ_tick hi (ctlTick_pkgSync_marker hf hleft rfl)

/-- R183: PKG_READ ticks store characters for which the buffer has room, one each. -/
theorem run_pkgRead_append {cs q : List Byte} {k : Nat} (hcfg : s.cfg.Valid) (hf : s.fsm = fsmPkgRead)
    (hi : s.inputs = []) (hlen : s.pkgLen.toNat = s.pkgBuf.length)
    (hroom : s.pkgBuf.length + cs.length ≤ s.cfg.pkgMaxChars) (hcs : marker ∉ cs) (hn : cs.length ≤ s.outerCnt)
    (hq : s.rxq = cs ++ q) :
    run (cs.length + k) s = run k { s with
      outerCnt := s.outerCnt - cs.length, rxq := q, pkgBuf := s.pkgBuf ++ cs
      pkgLen := s.pkgLen + BitVec.ofNat 8 cs.length } := by
  induction cs generalizing s with
  | nil => simp [← hq.trans q.nil_append]
  | cons c cs ih =>
    obtain ⟨hc, hcs⟩ := not_or.1 (List.mem_cons.not.1 hcs)
    rw [List.length_cons] at hn hroom
    have hcap := hcfg.pkgHigh
    have hlen' : (s.pkgLen + 1).toNat = (s.pkgBuf ++ [c]).length := by
      rw [List.length_append, ← hlen]
      exact BitVec.toNat_add_of_lt (by simp; omega)
    have hroom' : (s.pkgBuf ++ [c]).length + cs.length ≤ s.cfg.pkgMaxChars := by
      rw [List.length_append, List.length_singleton]; omega
    calc run ((c :: cs).length + k) s
        = run (cs.length + k + 1) s := by rw [List.length_cons, Nat.add_right_comm]
      _ = run (cs.length + k) _ :=
        run_succ_tick hi (ctlTick_pkgRead_append hf (by omega) hq (Ne.symm hc) (by omega) hlen)
      _ = run k _ := ih (s := { s with
        outerCnt := s.outerCnt - 1, rxq := cs ++ q, pkgBuf := s.pkgBuf ++ [c], pkgLen := s.pkgLen + 1 })
        hcfg hf hi hlen' hroom' hcs (Nat.le_sub_of_add_le hn) rfl
      _ = run k { s with
        outerCnt := s.outerCnt - (c :: cs).length, rxq := q, pkgBuf := s.pkgBuf ++ c :: cs
        pkgLen := s.pkgLen + BitVec.ofNat 8 (c :: cs).length } := by
        simp [Nat.sub_sub, BitVec.ofNat_add, BitVec.add_assoc, Nat.add_comm 1, BitVec.add_comm 1#8]

/-- R5, R22: PKG_LEN can count every package that fits. -/
theorem toNat_ofNat_pkgLen {c : Config} {n : Nat} (hc : c.Valid) (hn : n ≤ c.pkgMaxChars) : (BitVec.ofNat 8 n).toNat = n := by
  have hcap := hc.pkgHigh
  rw [BitVec.toNat_ofNat]
  omega

/-- R183, R184: PKG_READ reads a package that fits, and completes at its trailing marker. -/
theorem run_pkgRead_package {chars q : List Byte} (hcfg : s.cfg.Valid) (hf : s.fsm = fsmPkgRead) (hi : s.inputs = [])
    (hlen : s.pkgLen = 0) (hbuf : s.pkgBuf = []) (hchars : marker ∉ chars) (hne : chars ≠ [])
    (hmax : chars.length ≤ s.cfg.pkgMaxChars) (hn : chars.length < s.outerCnt) (hq : s.rxq = chars ++ marker :: q) :
    run (chars.length + 1) s = .next (pkgSuccess { s with
      outerCnt := s.outerCnt - chars.length - 1, rxq := marker :: q, pkgBuf := chars
      pkgLen := BitVec.ofNat 8 chars.length }) := by
  have hleft : s.outerCnt - chars.length ≠ 0 := by omega
  have hpos : 0 < (BitVec.ofNat 8 chars.length).toNat := by
    rw [toNat_ofNat_pkgLen hcfg hmax]
    exact List.length_pos_iff.2 hne
  have hroom : s.pkgBuf.length + chars.length ≤ s.cfg.pkgMaxChars := by rwa [hbuf, List.length_nil, Nat.zero_add]
  calc run (chars.length + 1) s
      = run 1 _ := run_pkgRead_append hcfg hf hi (by rw [hlen, hbuf]; rfl) hroom hchars hn.le hq
    _ = run 1 { s with
        outerCnt := s.outerCnt - chars.length, rxq := marker :: q, pkgBuf := chars
        pkgLen := BitVec.ofNat 8 chars.length } := by simp [hlen, hbuf]
    _ = .next _ := run_succ_tick hi (ctlTick_pkgRead_done hf hleft rfl hpos)

/-- Settles O57: PKG_SYNC reads to the leading marker, PKG_READ the package; `pkgSuccess_eq` says what is written, `pkgIsHex_eq`
what PKG_HEX_OK is. -/
theorem packageIsReadFromTheStream : Obligations.PackageIsReadFromTheStream := by
  intro s g chars q hcfg hf hi hlen hbuf hg hchars hne hmax hbudget hq
  have hpos := List.length_pos_iff.2 hne
  have hcount : (BitVec.ofNat 8 chars.length).toNat = chars.length := toNat_ofNat_pkgLen hcfg hmax
  have hbudget' : chars.length < s.outerCnt - g.length - 1 := by omega
  have hleft : s.outerCnt - (g.length + chars.length + 2) = s.outerCnt - g.length - 1 - chars.length - 1 := by omega
  calc run (g.length + chars.length + 2) s
      = run (g.length + (chars.length + 1 + 1)) s := by rw [Nat.add_assoc]
    _ = run (chars.length + 1) { s with
        outerCnt := s.outerCnt - g.length - 1, rxq := chars ++ marker :: q, fsm := fsmPkgRead } :=
      run_pkgSync_to_pkgRead hf hi hg (by omega) hq
    _ = .next _ := run_pkgRead_package hcfg rfl hi hlen hbuf hchars hne hmax hbudget' rfl
    _ = _ := by
      rw [pkgSuccess_eq, pkgIsHex_eq hcount, decide_eq_true hpos, Bool.true_and, hleft]
      rfl

/-! ### R261's bound -/

/-- R182, R183: READ_PKG goes on. -/
def State.ReadsPkg (s : State) : Prop := s.fsm = fsmPkgSync ∨ s.fsm = fsmPkgRead

/-- R261: at most this many ticks are left: one for each unit of the one budget and one that times out. -/
def State.pkgTicksLeft (s : State) : Nat := s.outerCnt + 1

/-- R182, R183: a tick of a package read completes it or spends a unit of the one budget. -/
theorem TickEffect.readPkg_progress (h : TickEffect s t) (hs : s.ReadsPkg) :
    t.Completed ∨ (t.ReadsPkg ∧ t.pkgTicksLeft < s.pkgTicksLeft) := by
  cases h with
  | syncTimeout | readTimeout | pkgDone | pkgFull => exact .inl ⟨rfl, rfl, rfl⟩
  | syncEmpty _ h0 | syncDiscard _ h0 | readEmpty _ h0 | pkgEmptyPayload _ h0 | pkgChar _ h0 =>
    exact .inr ⟨hs, Nat.succ_lt_succ (Nat.sub_one_lt h0)⟩
  | syncMarker _ h0 => exact .inr ⟨.inr rfl, Nat.succ_lt_succ (Nat.sub_one_lt h0)⟩
  | idle hf' | txDone hf' | txWaiting hf' | waitTimeout hf' | waitReady hf' | waitMore hf' | resyncTimeout hf'
  | resyncEmpty hf' | resyncDiscard hf' | resyncBack hf' | readValid hf' | readInvalid hf' =>
    rcases hs with hf | hf <;> exact absurd (hf.symm.trans hf') (by decide)

/-- R261: progress is all that the bound speaks of. -/
theorem State.SameProgress.readsPkg (h : s.SameProgress t) (hs : s.ReadsPkg) :
    t.ReadsPkg ∧ t.pkgTicksLeft = s.pkgTicksLeft := by
  obtain ⟨hf, hout, -, -⟩ := h
  exact ⟨by rwa [State.ReadsPkg, hf], congrArg Nat.succ hout⟩

/-- R261: `pkgTicksLeft` counts down a package read. -/
theorem readPkg_tickMeasure : TickMeasure State.ReadsPkg State.pkgTicksLeft where
  notIdle := by
    rintro s (hf | hf) <;> rw [hf] <;> decide
  pos _ := Nat.succ_pos _
  tick hs he := he.readPkg_progress hs
  other hs h := h.readsPkg hs

/-- Settles O53: `readPkg_tickMeasure` counts the ticks left down, from at most BUDGET_TICKS + 1 by R35. -/
theorem readPkgEndsWithinTheBudget : Obligations.ReadPkgEndsWithinTheBudget := fun _ h hs hplain hticks =>
  readPkg_tickMeasure.completes h hs hplain ((Nat.succ_le_succ h.outerBound).trans hticks)

end Sys2Proof.Machine
end

section
/-! SUPPORT. CHECK_TYPE's completion (R201). -/

namespace Sys2Proof.Machine

open Sys2Proof

/-- R201: CHECK_TYPE writes the TypeCheck's answer, LAST_OP and DONE. -/
theorem checkTypeEffect_eq (s : State) :
    checkTypeEffect s = { s with
      cmdStatus := if s.stat.respValid = false ∨ s.resType = s.cmdOpcode then s.resStatus else statusFail
      lastOp := 0x06
      stat := { s.stat with
        typeMatch := s.stat.respValid && decide (s.resType = s.cmdOpcode), done := true } } := by
  rw [checkTypeEffect, typeCheck_eq]
  rfl

/-- Settles O11: with BUSY = 0 the step is `checkTypeEffect`, and `checkTypeEffect_eq` says what it writes. -/
theorem checkTypeCompletes : Obligations.CheckTypeCompletes := fun s hb =>
  (request_idle checkTypeEffect hb).trans (congrArg _ (checkTypeEffect_eq s))

end Sys2Proof.Machine
end

section
/-! SUPPORT. The host operations while BUSY (R222, R254). -/

namespace Sys2Proof.Machine

open Sys2Proof

/-- Settles O14: `exec_ctrl_busy` drops the operation, and `flagOverlap` is by definition the two stated writes. -/
theorem requestsWhileBusyAreRefused : Obligations.RequestsWhileBusyAreRefused := fun _ _ hb hp =>
  exec_ctrl_busy hp hb

end Sys2Proof.Machine
end
